-- ==== Sys2Proof/Word.lean ====
section
/-! DEFINITION. The two word types of the machine (spec/00_scope.md R9): bytes and addresses.
Arithmetic on them wraps at their width, as R9 says. -/

namespace Sys2Proof

/-- A byte: an 8-bit unsigned value (R9). -/
abbrev Byte := BitVec 8

/-- An address: a 16-bit unsigned value (R9). -/
abbrev Word := BitVec 16

end Sys2Proof
end

