-- ==== Sys2Proof/Syntax.lean ====
section
/-! DEFINITION. The instructions: one constructor per row of spec/opcode_table.json (30_encoding.md R57, R58),
named by mnemonic and addressing mode; the addressing modes (40_addressing_modes.md); and the form of a
row of R58's table. -/

namespace Sys2Proof

/-- The addressing modes that name an address, with their operand (R68 to R77). -/
inductive Address where
  /-- zero page (R68) -/
  | zp (b : Byte)
  /-- zero page indexed by X (R69) -/
  | zpx (b : Byte)
  /-- zero page indexed by Y (R70) -/
  | zpy (b : Byte)
  /-- absolute (R71) -/
  | abs (w : Word)
  /-- absolute indexed by X (R72) -/
  | abx (w : Word)
  /-- absolute indexed by Y (R73) -/
  | aby (w : Word)
  /-- indexed indirect (R74) -/
  | izx (b : Byte)
  /-- indirect indexed (R75) -/
  | izy (b : Byte)
  /-- absolute indirect (R76) -/
  | ind (w : Word)
  /-- relative: a signed displacement (R77) -/
  | rel (d : Int)
  deriving DecidableEq, Repr

/-- The encoded length of an instruction in an address mode (R54). -/
def Address.length : Address → Nat
  | .zp _ | .zpx _ | .zpy _ | .izx _ | .izy _ | .rel _ => 2
  | .abs _ | .abx _ | .aby _ | .ind _ => 3

/-- All thirteen addressing modes, with their operand (R64). -/
inductive Operand where
  /-- implied (R65) -/
  | imp
  /-- accumulator (R66) -/
  | acc
  /-- immediate (R67) -/
  | imm (v : Byte)
  /-- a mode that names an address -/
  | mem (m : Address)
  deriving DecidableEq, Repr

/-- The encoded length of an instruction with an operand (R54). -/
def Operand.length : Operand → Nat
  | .imp | .acc => 1
  | .imm _ => 2
  | .mem m => m.length

/-- The mnemonics of R58, and JAM (R146). -/
inductive Mnemonic where
  | lda | ldx | ldy | sta | stx | sty | tax | tay | txa | tya | tsx | txs
  | pha | php | pla | plp | adc | sbc | and | ora | eor | bit | cmp | cpx
  | cpy | inc | dec | inx | iny | dex | dey | asl | lsr | rol | ror | jmp
  | jsr | rts | brk | rti | bcc | bcs | beq | bne | bmi | bpl | bvc | bvs
  | clc | sec | cli | sei | cld | sed | clv | nop | jam
  deriving DecidableEq, Repr

/-- A row of R58's table: mnemonic, opcode byte, addressing mode with its operand, base cycles. A jam opcode has no
cycle count (R146): its row says 0 and no tick follows it (R178). -/
structure Row where
  mnemonic : Mnemonic
  opcode : Byte
  operand : Operand
  cycles : Nat
  deriving DecidableEq, Repr

/-- The instructions, one constructor per row of spec/opcode_table.json. A branch carries its displacement as a
signed number (R56), which Sys2Proof/WellFormed.lean bounds. -/
inductive Instr where
  -- Loads, stores and transfers (41_load_store_transfer.md R81 to R92)
  | ldaImm (v : Byte) | ldaZp (b : Byte) | ldaZpx (b : Byte) | ldaAbs (w : Word) | ldaAbx (w : Word)
  | ldaAby (w : Word) | ldaIzx (b : Byte) | ldaIzy (b : Byte) | ldxImm (v : Byte) | ldxZp (b : Byte)
  | ldxZpy (b : Byte) | ldxAbs (w : Word) | ldxAby (w : Word) | ldyImm (v : Byte) | ldyZp (b : Byte)
  | ldyZpx (b : Byte) | ldyAbs (w : Word) | ldyAbx (w : Word) | staZp (b : Byte) | staZpx (b : Byte)
  | staAbs (w : Word) | staAbx (w : Word) | staAby (w : Word) | staIzx (b : Byte) | staIzy (b : Byte)
  | stxZp (b : Byte) | stxZpy (b : Byte) | stxAbs (w : Word) | styZp (b : Byte) | styZpx (b : Byte)
  | styAbs (w : Word) | tax | tay | txa | tya | tsx | txs
  -- Stack (42_stack.md R95 to R98)
  | pha | php | pla | plp
  -- Arithmetic, logic, compare, increment, decrement (43_arithmetic_logic.md R101 to R116)
  | adcImm (v : Byte) | adcZp (b : Byte) | adcZpx (b : Byte) | adcAbs (w : Word) | adcAbx (w : Word)
  | adcAby (w : Word) | adcIzx (b : Byte) | adcIzy (b : Byte) | sbcImm (v : Byte) | sbcZp (b : Byte)
  | sbcZpx (b : Byte) | sbcAbs (w : Word) | sbcAbx (w : Word) | sbcAby (w : Word) | sbcIzx (b : Byte)
  | sbcIzy (b : Byte) | andImm (v : Byte) | andZp (b : Byte) | andZpx (b : Byte) | andAbs (w : Word)
  | andAbx (w : Word) | andAby (w : Word) | andIzx (b : Byte) | andIzy (b : Byte) | oraImm (v : Byte)
  | oraZp (b : Byte) | oraZpx (b : Byte) | oraAbs (w : Word) | oraAbx (w : Word) | oraAby (w : Word)
  | oraIzx (b : Byte) | oraIzy (b : Byte) | eorImm (v : Byte) | eorZp (b : Byte) | eorZpx (b : Byte)
  | eorAbs (w : Word) | eorAbx (w : Word) | eorAby (w : Word) | eorIzx (b : Byte) | eorIzy (b : Byte)
  | bitZp (b : Byte) | bitAbs (w : Word) | cmpImm (v : Byte) | cmpZp (b : Byte) | cmpZpx (b : Byte)
  | cmpAbs (w : Word) | cmpAbx (w : Word) | cmpAby (w : Word) | cmpIzx (b : Byte) | cmpIzy (b : Byte)
  | cpxImm (v : Byte) | cpxZp (b : Byte) | cpxAbs (w : Word) | cpyImm (v : Byte) | cpyZp (b : Byte)
  | cpyAbs (w : Word) | incZp (b : Byte) | incZpx (b : Byte) | incAbs (w : Word) | incAbx (w : Word)
  | decZp (b : Byte) | decZpx (b : Byte) | decAbs (w : Word) | decAbx (w : Word) | inx | iny | dex | dey
  -- Shifts and rotates (44_shift_rotate.md R118 to R121)
  | aslAcc | aslZp (b : Byte) | aslZpx (b : Byte) | aslAbs (w : Word) | aslAbx (w : Word) | lsrAcc
  | lsrZp (b : Byte) | lsrZpx (b : Byte) | lsrAbs (w : Word) | lsrAbx (w : Word) | rolAcc | rolZp (b : Byte)
  | rolZpx (b : Byte) | rolAbs (w : Word) | rolAbx (w : Word) | rorAcc | rorZp (b : Byte) | rorZpx (b : Byte)
  | rorAbs (w : Word) | rorAbx (w : Word)
  -- Control transfer (45_control_transfer.md R122 to R137)
  | jmpAbs (w : Word) | jmpInd (w : Word) | jsr (w : Word) | rts | brk | rti | bcc (d : Int) | bcs (d : Int)
  | beq (d : Int) | bne (d : Int) | bmi (d : Int) | bpl (d : Int) | bvc (d : Int) | bvs (d : Int)
  -- Flags, NOP and the jam opcodes (46_flags_misc.md R138 to R146)
  | clc | sec | cli | sei | cld | sed | clv | nop | jam02 | jam12 | jam22 | jam32 | jam42 | jam52 | jam62 | jam72
  | jam92 | jamB2 | jamD2 | jamF2
  deriving DecidableEq, Repr

end Sys2Proof
end

