-- ==== Sys2Proof/WellFormed.lean ====
section
/-! DEFINITION. Which instructions can be encoded. Every bit of an operand byte is meaningful and every value
of it is legal (spec/30_encoding.md R62), so the one check is a branch's displacement: it must lie within
-128 to +127, or the branch cannot be assembled (R63). -/

namespace Sys2Proof

/-- A branch displacement that fits its signed byte (R56, R63). -/
def dispFits (d : Int) : Bool := decide (-128 ≤ d ∧ d ≤ 127)

/-- The instruction has an encoding. -/
def Instr.wellFormed : Instr → Bool
  | .bcc d | .bcs d | .beq d | .bne d | .bmi d | .bpl d | .bvc d | .bvs d => dispFits d
  | .ldaImm _ | .ldaZp _ | .ldaZpx _ | .ldaAbs _ | .ldaAbx _ | .ldaAby _ | .ldaIzx _ | .ldaIzy _ | .ldxImm _
  | .ldxZp _ | .ldxZpy _ | .ldxAbs _ | .ldxAby _ | .ldyImm _ | .ldyZp _ | .ldyZpx _ | .ldyAbs _ | .ldyAbx _
  | .staZp _ | .staZpx _ | .staAbs _ | .staAbx _ | .staAby _ | .staIzx _ | .staIzy _ | .stxZp _ | .stxZpy _
  | .stxAbs _ | .styZp _ | .styZpx _ | .styAbs _ | .tax | .tay | .txa | .tya | .tsx | .txs | .pha | .php | .pla
  | .plp | .adcImm _ | .adcZp _ | .adcZpx _ | .adcAbs _ | .adcAbx _ | .adcAby _ | .adcIzx _ | .adcIzy _
  | .sbcImm _ | .sbcZp _ | .sbcZpx _ | .sbcAbs _ | .sbcAbx _ | .sbcAby _ | .sbcIzx _ | .sbcIzy _ | .andImm _
  | .andZp _ | .andZpx _ | .andAbs _ | .andAbx _ | .andAby _ | .andIzx _ | .andIzy _ | .oraImm _ | .oraZp _
  | .oraZpx _ | .oraAbs _ | .oraAbx _ | .oraAby _ | .oraIzx _ | .oraIzy _ | .eorImm _ | .eorZp _ | .eorZpx _
  | .eorAbs _ | .eorAbx _ | .eorAby _ | .eorIzx _ | .eorIzy _ | .bitZp _ | .bitAbs _ | .cmpImm _ | .cmpZp _
  | .cmpZpx _ | .cmpAbs _ | .cmpAbx _ | .cmpAby _ | .cmpIzx _ | .cmpIzy _ | .cpxImm _ | .cpxZp _ | .cpxAbs _
  | .cpyImm _ | .cpyZp _ | .cpyAbs _ | .incZp _ | .incZpx _ | .incAbs _ | .incAbx _ | .decZp _ | .decZpx _
  | .decAbs _ | .decAbx _ | .inx | .iny | .dex | .dey | .aslAcc | .aslZp _ | .aslZpx _ | .aslAbs _ | .aslAbx _
  | .lsrAcc | .lsrZp _ | .lsrZpx _ | .lsrAbs _ | .lsrAbx _ | .rolAcc | .rolZp _ | .rolZpx _ | .rolAbs _
  | .rolAbx _ | .rorAcc | .rorZp _ | .rorZpx _ | .rorAbs _ | .rorAbx _ | .jmpAbs _ | .jmpInd _ | .jsr _ | .rts
  | .brk | .rti | .clc | .sec | .cli | .sei | .cld | .sed | .clv | .nop | .jam02 | .jam12 | .jam22 | .jam32
  | .jam42 | .jam52 | .jam62 | .jam72 | .jam92 | .jamB2 | .jamD2 | .jamF2 => true

end Sys2Proof
end

