-- ==== Sys2Proof/Decode.lean ====
section
/-! DEFINITION. Decoding and encoding (spec/30_encoding.md): the opcode map of R57, one function per row of
the map; the decoder, total on any bytes; R58's table; and the encoder, written from R58 and R56. -/

namespace Sys2Proof

/-! ### Bytes of an address (R9) -/

/-- lo(a) = a[7:0]. -/
def lo (w : Word) : Byte := w.extractLsb' 0 8

/-- hi(a) = a[15:8]. -/
def hi (w : Word) : Byte := w.extractLsb' 8 8

/-- The concatenation h : l, h the more significant. -/
def join (h l : Byte) : Word := h ++ l

/-! ### The opcode map -/

/-- What an opcode byte selects: an instruction, or one that takes one or two operand bytes (R54, R55). -/
inductive Shape where
  | op0 (i : Instr)
  | op1 (make : Byte → Instr)
  | op2 (make : Word → Instr)

/-- Row 0x of the opcode map (R57), by the low hex digit; no entry: the row's unimplemented opcodes (R60). -/
def mapRow0 : Nat → Option Shape
  | 0x0 => some (.op0 .brk)
  | 0x1 => some (.op1 .oraIzx)
  | 0x2 => some (.op0 .jam02)
  | 0x5 => some (.op1 .oraZp)
  | 0x6 => some (.op1 .aslZp)
  | 0x8 => some (.op0 .php)
  | 0x9 => some (.op1 .oraImm)
  | 0xA => some (.op0 .aslAcc)
  | 0xD => some (.op2 .oraAbs)
  | 0xE => some (.op2 .aslAbs)
  | _ => none

/-- Row 1x of the opcode map (R57), by the low hex digit; no entry: the row's unimplemented opcodes (R60). -/
def mapRow1 : Nat → Option Shape
  | 0x0 => some (.op1 fun b => .bpl b.toInt)
  | 0x1 => some (.op1 .oraIzy)
  | 0x2 => some (.op0 .jam12)
  | 0x5 => some (.op1 .oraZpx)
  | 0x6 => some (.op1 .aslZpx)
  | 0x8 => some (.op0 .clc)
  | 0x9 => some (.op2 .oraAby)
  | 0xD => some (.op2 .oraAbx)
  | 0xE => some (.op2 .aslAbx)
  | _ => none

/-- Row 2x of the opcode map (R57), by the low hex digit; no entry: the row's unimplemented opcodes (R60). -/
def mapRow2 : Nat → Option Shape
  | 0x0 => some (.op2 .jsr)
  | 0x1 => some (.op1 .andIzx)
  | 0x2 => some (.op0 .jam22)
  | 0x4 => some (.op1 .bitZp)
  | 0x5 => some (.op1 .andZp)
  | 0x6 => some (.op1 .rolZp)
  | 0x8 => some (.op0 .plp)
  | 0x9 => some (.op1 .andImm)
  | 0xA => some (.op0 .rolAcc)
  | 0xC => some (.op2 .bitAbs)
  | 0xD => some (.op2 .andAbs)
  | 0xE => some (.op2 .rolAbs)
  | _ => none

/-- Row 3x of the opcode map (R57), by the low hex digit; no entry: the row's unimplemented opcodes (R60). -/
def mapRow3 : Nat → Option Shape
  | 0x0 => some (.op1 fun b => .bmi b.toInt)
  | 0x1 => some (.op1 .andIzy)
  | 0x2 => some (.op0 .jam32)
  | 0x5 => some (.op1 .andZpx)
  | 0x6 => some (.op1 .rolZpx)
  | 0x8 => some (.op0 .sec)
  | 0x9 => some (.op2 .andAby)
  | 0xD => some (.op2 .andAbx)
  | 0xE => some (.op2 .rolAbx)
  | _ => none

/-- Row 4x of the opcode map (R57), by the low hex digit; no entry: the row's unimplemented opcodes (R60). -/
def mapRow4 : Nat → Option Shape
  | 0x0 => some (.op0 .rti)
  | 0x1 => some (.op1 .eorIzx)
  | 0x2 => some (.op0 .jam42)
  | 0x5 => some (.op1 .eorZp)
  | 0x6 => some (.op1 .lsrZp)
  | 0x8 => some (.op0 .pha)
  | 0x9 => some (.op1 .eorImm)
  | 0xA => some (.op0 .lsrAcc)
  | 0xC => some (.op2 .jmpAbs)
  | 0xD => some (.op2 .eorAbs)
  | 0xE => some (.op2 .lsrAbs)
  | _ => none

/-- Row 5x of the opcode map (R57), by the low hex digit; no entry: the row's unimplemented opcodes (R60). -/
def mapRow5 : Nat → Option Shape
  | 0x0 => some (.op1 fun b => .bvc b.toInt)
  | 0x1 => some (.op1 .eorIzy)
  | 0x2 => some (.op0 .jam52)
  | 0x5 => some (.op1 .eorZpx)
  | 0x6 => some (.op1 .lsrZpx)
  | 0x8 => some (.op0 .cli)
  | 0x9 => some (.op2 .eorAby)
  | 0xD => some (.op2 .eorAbx)
  | 0xE => some (.op2 .lsrAbx)
  | _ => none

/-- Row 6x of the opcode map (R57), by the low hex digit; no entry: the row's unimplemented opcodes (R60). -/
def mapRow6 : Nat → Option Shape
  | 0x0 => some (.op0 .rts)
  | 0x1 => some (.op1 .adcIzx)
  | 0x2 => some (.op0 .jam62)
  | 0x5 => some (.op1 .adcZp)
  | 0x6 => some (.op1 .rorZp)
  | 0x8 => some (.op0 .pla)
  | 0x9 => some (.op1 .adcImm)
  | 0xA => some (.op0 .rorAcc)
  | 0xC => some (.op2 .jmpInd)
  | 0xD => some (.op2 .adcAbs)
  | 0xE => some (.op2 .rorAbs)
  | _ => none

/-- Row 7x of the opcode map (R57), by the low hex digit; no entry: the row's unimplemented opcodes (R60). -/
def mapRow7 : Nat → Option Shape
  | 0x0 => some (.op1 fun b => .bvs b.toInt)
  | 0x1 => some (.op1 .adcIzy)
  | 0x2 => some (.op0 .jam72)
  | 0x5 => some (.op1 .adcZpx)
  | 0x6 => some (.op1 .rorZpx)
  | 0x8 => some (.op0 .sei)
  | 0x9 => some (.op2 .adcAby)
  | 0xD => some (.op2 .adcAbx)
  | 0xE => some (.op2 .rorAbx)
  | _ => none

/-- Row 8x of the opcode map (R57), by the low hex digit; no entry: the row's unimplemented opcodes (R60). -/
def mapRow8 : Nat → Option Shape
  | 0x1 => some (.op1 .staIzx)
  | 0x4 => some (.op1 .styZp)
  | 0x5 => some (.op1 .staZp)
  | 0x6 => some (.op1 .stxZp)
  | 0x8 => some (.op0 .dey)
  | 0xA => some (.op0 .txa)
  | 0xC => some (.op2 .styAbs)
  | 0xD => some (.op2 .staAbs)
  | 0xE => some (.op2 .stxAbs)
  | _ => none

/-- Row 9x of the opcode map (R57), by the low hex digit; no entry: the row's unimplemented opcodes (R60). -/
def mapRow9 : Nat → Option Shape
  | 0x0 => some (.op1 fun b => .bcc b.toInt)
  | 0x1 => some (.op1 .staIzy)
  | 0x2 => some (.op0 .jam92)
  | 0x4 => some (.op1 .styZpx)
  | 0x5 => some (.op1 .staZpx)
  | 0x6 => some (.op1 .stxZpy)
  | 0x8 => some (.op0 .tya)
  | 0x9 => some (.op2 .staAby)
  | 0xA => some (.op0 .txs)
  | 0xD => some (.op2 .staAbx)
  | _ => none

/-- Row Ax of the opcode map (R57), by the low hex digit; no entry: the row's unimplemented opcodes (R60). -/
def mapRowA : Nat → Option Shape
  | 0x0 => some (.op1 .ldyImm)
  | 0x1 => some (.op1 .ldaIzx)
  | 0x2 => some (.op1 .ldxImm)
  | 0x4 => some (.op1 .ldyZp)
  | 0x5 => some (.op1 .ldaZp)
  | 0x6 => some (.op1 .ldxZp)
  | 0x8 => some (.op0 .tay)
  | 0x9 => some (.op1 .ldaImm)
  | 0xA => some (.op0 .tax)
  | 0xC => some (.op2 .ldyAbs)
  | 0xD => some (.op2 .ldaAbs)
  | 0xE => some (.op2 .ldxAbs)
  | _ => none

/-- Row Bx of the opcode map (R57), by the low hex digit; no entry: the row's unimplemented opcodes (R60). -/
def mapRowB : Nat → Option Shape
  | 0x0 => some (.op1 fun b => .bcs b.toInt)
  | 0x1 => some (.op1 .ldaIzy)
  | 0x2 => some (.op0 .jamB2)
  | 0x4 => some (.op1 .ldyZpx)
  | 0x5 => some (.op1 .ldaZpx)
  | 0x6 => some (.op1 .ldxZpy)
  | 0x8 => some (.op0 .clv)
  | 0x9 => some (.op2 .ldaAby)
  | 0xA => some (.op0 .tsx)
  | 0xC => some (.op2 .ldyAbx)
  | 0xD => some (.op2 .ldaAbx)
  | 0xE => some (.op2 .ldxAby)
  | _ => none

/-- Row Cx of the opcode map (R57), by the low hex digit; no entry: the row's unimplemented opcodes (R60). -/
def mapRowC : Nat → Option Shape
  | 0x0 => some (.op1 .cpyImm)
  | 0x1 => some (.op1 .cmpIzx)
  | 0x4 => some (.op1 .cpyZp)
  | 0x5 => some (.op1 .cmpZp)
  | 0x6 => some (.op1 .decZp)
  | 0x8 => some (.op0 .iny)
  | 0x9 => some (.op1 .cmpImm)
  | 0xA => some (.op0 .dex)
  | 0xC => some (.op2 .cpyAbs)
  | 0xD => some (.op2 .cmpAbs)
  | 0xE => some (.op2 .decAbs)
  | _ => none

/-- Row Dx of the opcode map (R57), by the low hex digit; no entry: the row's unimplemented opcodes (R60). -/
def mapRowD : Nat → Option Shape
  | 0x0 => some (.op1 fun b => .bne b.toInt)
  | 0x1 => some (.op1 .cmpIzy)
  | 0x2 => some (.op0 .jamD2)
  | 0x5 => some (.op1 .cmpZpx)
  | 0x6 => some (.op1 .decZpx)
  | 0x8 => some (.op0 .cld)
  | 0x9 => some (.op2 .cmpAby)
  | 0xD => some (.op2 .cmpAbx)
  | 0xE => some (.op2 .decAbx)
  | _ => none

/-- Row Ex of the opcode map (R57), by the low hex digit; no entry: the row's unimplemented opcodes (R60). -/
def mapRowE : Nat → Option Shape
  | 0x0 => some (.op1 .cpxImm)
  | 0x1 => some (.op1 .sbcIzx)
  | 0x4 => some (.op1 .cpxZp)
  | 0x5 => some (.op1 .sbcZp)
  | 0x6 => some (.op1 .incZp)
  | 0x8 => some (.op0 .inx)
  | 0x9 => some (.op1 .sbcImm)
  | 0xA => some (.op0 .nop)
  | 0xC => some (.op2 .cpxAbs)
  | 0xD => some (.op2 .sbcAbs)
  | 0xE => some (.op2 .incAbs)
  | _ => none

/-- Row Fx of the opcode map (R57), by the low hex digit; no entry: the row's unimplemented opcodes (R60). -/
def mapRowF : Nat → Option Shape
  | 0x0 => some (.op1 fun b => .beq b.toInt)
  | 0x1 => some (.op1 .sbcIzy)
  | 0x2 => some (.op0 .jamF2)
  | 0x5 => some (.op1 .sbcZpx)
  | 0x6 => some (.op1 .incZpx)
  | 0x8 => some (.op0 .sed)
  | 0x9 => some (.op2 .sbcAby)
  | 0xD => some (.op2 .sbcAbx)
  | 0xE => some (.op2 .incAbx)
  | _ => none

/-- The opcode map (R57): the entry of an opcode byte, or none for the 93 of R60. -/
def opcodeShape (op : Byte) : Option Shape :=
  let low := op.toNat % 16
  match op.toNat / 16 with
  | 0x0 => mapRow0 low
  | 0x1 => mapRow1 low
  | 0x2 => mapRow2 low
  | 0x3 => mapRow3 low
  | 0x4 => mapRow4 low
  | 0x5 => mapRow5 low
  | 0x6 => mapRow6 low
  | 0x7 => mapRow7 low
  | 0x8 => mapRow8 low
  | 0x9 => mapRow9 low
  | 0xA => mapRowA low
  | 0xB => mapRowB low
  | 0xC => mapRowC low
  | 0xD => mapRowD low
  | 0xE => mapRowE low
  | 0xF => mapRowF low
  | _ => none

/-- How many operand bytes follow an opcode byte; none after one with no table entry (R55, R60). -/
def operandCount (op : Byte) : Nat :=
  match opcodeShape op with
  | some (.op0 _) => 0
  | some (.op1 _) => 1
  | some (.op2 _) => 2
  | none => 0

/-! ### The decoder -/

/-- Why bytes are no instruction. -/
inductive DecodeError where
  /-- An opcode with no table entry (R60). -/
  | unimplementedOpcode (op : Byte)
  /-- Fewer bytes than the instruction has. -/
  | truncated
  deriving DecidableEq, Repr

/-- The instruction at the front of a list of bytes, and the bytes after it; a 16-bit operand is low byte first
(R46, R56). -/
def decode : List Byte → Except DecodeError (Instr × List Byte)
  | [] => .error .truncated
  | op :: rest =>
    match opcodeShape op with
    | none => .error (.unimplementedOpcode op)
    | some (.op0 i) => .ok (i, rest)
    | some (.op1 make) =>
      match rest with
      | b1 :: rest1 => .ok (make b1, rest1)
      | [] => .error .truncated
    | some (.op2 make) =>
      match rest with
      | b1 :: b2 :: rest2 => .ok (make (join b2 b1), rest2)
      | [_] | [] => .error .truncated

/-- Byte `k` of an instruction whose `nbits` bits are `w`, first byte least significant; bits above `nbits` are 0. -/
def wordByte (nbits w k : Nat) : Byte := BitVec.ofNat 8 (w % 2 ^ nbits / 256 ^ k)

/-- The bytes of that instruction, as many as the longest instruction has. -/
def wordBytes (nbits w : Nat) : List Byte := [wordByte nbits w 0, wordByte nbits w 1, wordByte nbits w 2]

/-- The instruction the decoder reads from an instruction whose bits are `w`, numbered as the opcode table does. -/
def decodeTableWord (nbits w : Nat) : Option Instr :=
  match decode (wordBytes nbits w) with
  | .ok (i, _) => some i
  | .error _ => none

/-! ### The encoder -/

/-- R58's table, by mnemonic and mode. -/
def Instr.row : Instr → Row
  | .ldaImm v => ⟨.lda, 0xA9, .imm v, 2⟩
  | .ldaZp b => ⟨.lda, 0xA5, .mem (.zp b), 3⟩
  | .ldaZpx b => ⟨.lda, 0xB5, .mem (.zpx b), 4⟩
  | .ldaAbs w => ⟨.lda, 0xAD, .mem (.abs w), 4⟩
  | .ldaAbx w => ⟨.lda, 0xBD, .mem (.abx w), 4⟩
  | .ldaAby w => ⟨.lda, 0xB9, .mem (.aby w), 4⟩
  | .ldaIzx b => ⟨.lda, 0xA1, .mem (.izx b), 6⟩
  | .ldaIzy b => ⟨.lda, 0xB1, .mem (.izy b), 5⟩
  | .ldxImm v => ⟨.ldx, 0xA2, .imm v, 2⟩
  | .ldxZp b => ⟨.ldx, 0xA6, .mem (.zp b), 3⟩
  | .ldxZpy b => ⟨.ldx, 0xB6, .mem (.zpy b), 4⟩
  | .ldxAbs w => ⟨.ldx, 0xAE, .mem (.abs w), 4⟩
  | .ldxAby w => ⟨.ldx, 0xBE, .mem (.aby w), 4⟩
  | .ldyImm v => ⟨.ldy, 0xA0, .imm v, 2⟩
  | .ldyZp b => ⟨.ldy, 0xA4, .mem (.zp b), 3⟩
  | .ldyZpx b => ⟨.ldy, 0xB4, .mem (.zpx b), 4⟩
  | .ldyAbs w => ⟨.ldy, 0xAC, .mem (.abs w), 4⟩
  | .ldyAbx w => ⟨.ldy, 0xBC, .mem (.abx w), 4⟩
  | .staZp b => ⟨.sta, 0x85, .mem (.zp b), 3⟩
  | .staZpx b => ⟨.sta, 0x95, .mem (.zpx b), 4⟩
  | .staAbs w => ⟨.sta, 0x8D, .mem (.abs w), 4⟩
  | .staAbx w => ⟨.sta, 0x9D, .mem (.abx w), 5⟩
  | .staAby w => ⟨.sta, 0x99, .mem (.aby w), 5⟩
  | .staIzx b => ⟨.sta, 0x81, .mem (.izx b), 6⟩
  | .staIzy b => ⟨.sta, 0x91, .mem (.izy b), 6⟩
  | .stxZp b => ⟨.stx, 0x86, .mem (.zp b), 3⟩
  | .stxZpy b => ⟨.stx, 0x96, .mem (.zpy b), 4⟩
  | .stxAbs w => ⟨.stx, 0x8E, .mem (.abs w), 4⟩
  | .styZp b => ⟨.sty, 0x84, .mem (.zp b), 3⟩
  | .styZpx b => ⟨.sty, 0x94, .mem (.zpx b), 4⟩
  | .styAbs w => ⟨.sty, 0x8C, .mem (.abs w), 4⟩
  | .tax => ⟨.tax, 0xAA, .imp, 2⟩
  | .tay => ⟨.tay, 0xA8, .imp, 2⟩
  | .txa => ⟨.txa, 0x8A, .imp, 2⟩
  | .tya => ⟨.tya, 0x98, .imp, 2⟩
  | .tsx => ⟨.tsx, 0xBA, .imp, 2⟩
  | .txs => ⟨.txs, 0x9A, .imp, 2⟩
  | .pha => ⟨.pha, 0x48, .imp, 3⟩
  | .php => ⟨.php, 0x08, .imp, 3⟩
  | .pla => ⟨.pla, 0x68, .imp, 4⟩
  | .plp => ⟨.plp, 0x28, .imp, 4⟩
  | .adcImm v => ⟨.adc, 0x69, .imm v, 2⟩
  | .adcZp b => ⟨.adc, 0x65, .mem (.zp b), 3⟩
  | .adcZpx b => ⟨.adc, 0x75, .mem (.zpx b), 4⟩
  | .adcAbs w => ⟨.adc, 0x6D, .mem (.abs w), 4⟩
  | .adcAbx w => ⟨.adc, 0x7D, .mem (.abx w), 4⟩
  | .adcAby w => ⟨.adc, 0x79, .mem (.aby w), 4⟩
  | .adcIzx b => ⟨.adc, 0x61, .mem (.izx b), 6⟩
  | .adcIzy b => ⟨.adc, 0x71, .mem (.izy b), 5⟩
  | .sbcImm v => ⟨.sbc, 0xE9, .imm v, 2⟩
  | .sbcZp b => ⟨.sbc, 0xE5, .mem (.zp b), 3⟩
  | .sbcZpx b => ⟨.sbc, 0xF5, .mem (.zpx b), 4⟩
  | .sbcAbs w => ⟨.sbc, 0xED, .mem (.abs w), 4⟩
  | .sbcAbx w => ⟨.sbc, 0xFD, .mem (.abx w), 4⟩
  | .sbcAby w => ⟨.sbc, 0xF9, .mem (.aby w), 4⟩
  | .sbcIzx b => ⟨.sbc, 0xE1, .mem (.izx b), 6⟩
  | .sbcIzy b => ⟨.sbc, 0xF1, .mem (.izy b), 5⟩
  | .andImm v => ⟨.and, 0x29, .imm v, 2⟩
  | .andZp b => ⟨.and, 0x25, .mem (.zp b), 3⟩
  | .andZpx b => ⟨.and, 0x35, .mem (.zpx b), 4⟩
  | .andAbs w => ⟨.and, 0x2D, .mem (.abs w), 4⟩
  | .andAbx w => ⟨.and, 0x3D, .mem (.abx w), 4⟩
  | .andAby w => ⟨.and, 0x39, .mem (.aby w), 4⟩
  | .andIzx b => ⟨.and, 0x21, .mem (.izx b), 6⟩
  | .andIzy b => ⟨.and, 0x31, .mem (.izy b), 5⟩
  | .oraImm v => ⟨.ora, 0x09, .imm v, 2⟩
  | .oraZp b => ⟨.ora, 0x05, .mem (.zp b), 3⟩
  | .oraZpx b => ⟨.ora, 0x15, .mem (.zpx b), 4⟩
  | .oraAbs w => ⟨.ora, 0x0D, .mem (.abs w), 4⟩
  | .oraAbx w => ⟨.ora, 0x1D, .mem (.abx w), 4⟩
  | .oraAby w => ⟨.ora, 0x19, .mem (.aby w), 4⟩
  | .oraIzx b => ⟨.ora, 0x01, .mem (.izx b), 6⟩
  | .oraIzy b => ⟨.ora, 0x11, .mem (.izy b), 5⟩
  | .eorImm v => ⟨.eor, 0x49, .imm v, 2⟩
  | .eorZp b => ⟨.eor, 0x45, .mem (.zp b), 3⟩
  | .eorZpx b => ⟨.eor, 0x55, .mem (.zpx b), 4⟩
  | .eorAbs w => ⟨.eor, 0x4D, .mem (.abs w), 4⟩
  | .eorAbx w => ⟨.eor, 0x5D, .mem (.abx w), 4⟩
  | .eorAby w => ⟨.eor, 0x59, .mem (.aby w), 4⟩
  | .eorIzx b => ⟨.eor, 0x41, .mem (.izx b), 6⟩
  | .eorIzy b => ⟨.eor, 0x51, .mem (.izy b), 5⟩
  | .bitZp b => ⟨.bit, 0x24, .mem (.zp b), 3⟩
  | .bitAbs w => ⟨.bit, 0x2C, .mem (.abs w), 4⟩
  | .cmpImm v => ⟨.cmp, 0xC9, .imm v, 2⟩
  | .cmpZp b => ⟨.cmp, 0xC5, .mem (.zp b), 3⟩
  | .cmpZpx b => ⟨.cmp, 0xD5, .mem (.zpx b), 4⟩
  | .cmpAbs w => ⟨.cmp, 0xCD, .mem (.abs w), 4⟩
  | .cmpAbx w => ⟨.cmp, 0xDD, .mem (.abx w), 4⟩
  | .cmpAby w => ⟨.cmp, 0xD9, .mem (.aby w), 4⟩
  | .cmpIzx b => ⟨.cmp, 0xC1, .mem (.izx b), 6⟩
  | .cmpIzy b => ⟨.cmp, 0xD1, .mem (.izy b), 5⟩
  | .cpxImm v => ⟨.cpx, 0xE0, .imm v, 2⟩
  | .cpxZp b => ⟨.cpx, 0xE4, .mem (.zp b), 3⟩
  | .cpxAbs w => ⟨.cpx, 0xEC, .mem (.abs w), 4⟩
  | .cpyImm v => ⟨.cpy, 0xC0, .imm v, 2⟩
  | .cpyZp b => ⟨.cpy, 0xC4, .mem (.zp b), 3⟩
  | .cpyAbs w => ⟨.cpy, 0xCC, .mem (.abs w), 4⟩
  | .incZp b => ⟨.inc, 0xE6, .mem (.zp b), 5⟩
  | .incZpx b => ⟨.inc, 0xF6, .mem (.zpx b), 6⟩
  | .incAbs w => ⟨.inc, 0xEE, .mem (.abs w), 6⟩
  | .incAbx w => ⟨.inc, 0xFE, .mem (.abx w), 7⟩
  | .decZp b => ⟨.dec, 0xC6, .mem (.zp b), 5⟩
  | .decZpx b => ⟨.dec, 0xD6, .mem (.zpx b), 6⟩
  | .decAbs w => ⟨.dec, 0xCE, .mem (.abs w), 6⟩
  | .decAbx w => ⟨.dec, 0xDE, .mem (.abx w), 7⟩
  | .inx => ⟨.inx, 0xE8, .imp, 2⟩
  | .iny => ⟨.iny, 0xC8, .imp, 2⟩
  | .dex => ⟨.dex, 0xCA, .imp, 2⟩
  | .dey => ⟨.dey, 0x88, .imp, 2⟩
  | .aslAcc => ⟨.asl, 0x0A, .acc, 2⟩
  | .aslZp b => ⟨.asl, 0x06, .mem (.zp b), 5⟩
  | .aslZpx b => ⟨.asl, 0x16, .mem (.zpx b), 6⟩
  | .aslAbs w => ⟨.asl, 0x0E, .mem (.abs w), 6⟩
  | .aslAbx w => ⟨.asl, 0x1E, .mem (.abx w), 7⟩
  | .lsrAcc => ⟨.lsr, 0x4A, .acc, 2⟩
  | .lsrZp b => ⟨.lsr, 0x46, .mem (.zp b), 5⟩
  | .lsrZpx b => ⟨.lsr, 0x56, .mem (.zpx b), 6⟩
  | .lsrAbs w => ⟨.lsr, 0x4E, .mem (.abs w), 6⟩
  | .lsrAbx w => ⟨.lsr, 0x5E, .mem (.abx w), 7⟩
  | .rolAcc => ⟨.rol, 0x2A, .acc, 2⟩
  | .rolZp b => ⟨.rol, 0x26, .mem (.zp b), 5⟩
  | .rolZpx b => ⟨.rol, 0x36, .mem (.zpx b), 6⟩
  | .rolAbs w => ⟨.rol, 0x2E, .mem (.abs w), 6⟩
  | .rolAbx w => ⟨.rol, 0x3E, .mem (.abx w), 7⟩
  | .rorAcc => ⟨.ror, 0x6A, .acc, 2⟩
  | .rorZp b => ⟨.ror, 0x66, .mem (.zp b), 5⟩
  | .rorZpx b => ⟨.ror, 0x76, .mem (.zpx b), 6⟩
  | .rorAbs w => ⟨.ror, 0x6E, .mem (.abs w), 6⟩
  | .rorAbx w => ⟨.ror, 0x7E, .mem (.abx w), 7⟩
  | .jmpAbs w => ⟨.jmp, 0x4C, .mem (.abs w), 3⟩
  | .jmpInd w => ⟨.jmp, 0x6C, .mem (.ind w), 5⟩
  | .jsr w => ⟨.jsr, 0x20, .mem (.abs w), 6⟩
  | .rts => ⟨.rts, 0x60, .imp, 6⟩
  | .brk => ⟨.brk, 0x00, .imp, 7⟩
  | .rti => ⟨.rti, 0x40, .imp, 6⟩
  | .bcc d => ⟨.bcc, 0x90, .mem (.rel d), 2⟩
  | .bcs d => ⟨.bcs, 0xB0, .mem (.rel d), 2⟩
  | .beq d => ⟨.beq, 0xF0, .mem (.rel d), 2⟩
  | .bne d => ⟨.bne, 0xD0, .mem (.rel d), 2⟩
  | .bmi d => ⟨.bmi, 0x30, .mem (.rel d), 2⟩
  | .bpl d => ⟨.bpl, 0x10, .mem (.rel d), 2⟩
  | .bvc d => ⟨.bvc, 0x50, .mem (.rel d), 2⟩
  | .bvs d => ⟨.bvs, 0x70, .mem (.rel d), 2⟩
  | .clc => ⟨.clc, 0x18, .imp, 2⟩
  | .sec => ⟨.sec, 0x38, .imp, 2⟩
  | .cli => ⟨.cli, 0x58, .imp, 2⟩
  | .sei => ⟨.sei, 0x78, .imp, 2⟩
  | .cld => ⟨.cld, 0xD8, .imp, 2⟩
  | .sed => ⟨.sed, 0xF8, .imp, 2⟩
  | .clv => ⟨.clv, 0xB8, .imp, 2⟩
  | .nop => ⟨.nop, 0xEA, .imp, 2⟩
  | .jam02 => ⟨.jam, 0x02, .imp, 0⟩
  | .jam12 => ⟨.jam, 0x12, .imp, 0⟩
  | .jam22 => ⟨.jam, 0x22, .imp, 0⟩
  | .jam32 => ⟨.jam, 0x32, .imp, 0⟩
  | .jam42 => ⟨.jam, 0x42, .imp, 0⟩
  | .jam52 => ⟨.jam, 0x52, .imp, 0⟩
  | .jam62 => ⟨.jam, 0x62, .imp, 0⟩
  | .jam72 => ⟨.jam, 0x72, .imp, 0⟩
  | .jam92 => ⟨.jam, 0x92, .imp, 0⟩
  | .jamB2 => ⟨.jam, 0xB2, .imp, 0⟩
  | .jamD2 => ⟨.jam, 0xD2, .imp, 0⟩
  | .jamF2 => ⟨.jam, 0xF2, .imp, 0⟩

/-- The encoded length in bytes (R54). -/
def Instr.length (i : Instr) : Nat := i.row.operand.length

/-- The operand bytes: a 16-bit operand low byte first, a displacement modulo 256 (R46, R56). -/
def operandBytes : Operand → List Byte
  | .imp | .acc => []
  | .imm v => [v]
  | .mem (.zp b) | .mem (.zpx b) | .mem (.zpy b) | .mem (.izx b) | .mem (.izy b) => [b]
  | .mem (.abs w) | .mem (.abx w) | .mem (.aby w) | .mem (.ind w) => [lo w, hi w]
  | .mem (.rel d) => [BitVec.ofInt 8 d]

/-- The bytes of a well-formed instruction (R54, R56, R58). -/
def encode (i : Instr) : List Byte := i.row.opcode :: operandBytes i.row.operand

end Sys2Proof
end

