-- ==== Sys2Proof/Config.lean ====
section
/-! DEFINITION. What is fixed for the machine (spec/00_scope.md R7), the reference values of the
parameters the spec leaves open (R8, 92_eei_decisions.md D29, D30), and the free values (D14, D17, D18). -/

namespace Sys2Proof.Config

/-- Video ticks per CPU cycle (R7, R178). -/
abbrev clockRatio : Nat := 3

/-- Scanlines per frame (R7). -/
abbrev scanlines : Nat := 262

/-- Ticks per scanline (R7). -/
abbrev dots : Nat := 341

/-- The scanline of the vblank instant; its dot is 1 (R7, R158). -/
abbrev vblankLine : Nat := 241

/-- The pre-render scanline, at whose dot 1 vblank is cleared (R158, D20). -/
abbrev preRenderLine : Nat := 261

/-- Cost of the reset, NMI and BRK sequences in CPU cycles (R7, R127). -/
abbrev interruptCycles : Nat := 7

/-- NMI vector (R44). -/
abbrev nmiVector : Word := 0xFFFA

/-- Reset vector (R44). -/
abbrev resetVector : Word := 0xFFFC

/-- IRQ/BRK vector (R44). -/
abbrev irqVector : Word := 0xFFFE

/-- PowerOnA, the spec's reference value (D29). DESIGN CHOICE, unsafe: log 1. -/
abbrev powerOnA : Byte := 0x00

/-- PowerOnX, the spec's reference value (D29). DESIGN CHOICE, unsafe: log 1. -/
abbrev powerOnX : Byte := 0x00

/-- PowerOnY, the spec's reference value (D29). DESIGN CHOICE, unsafe: log 1. -/
abbrev powerOnY : Byte := 0x00

/-- PowerOnS, the spec's reference value (D29, R186). DESIGN CHOICE, unsafe: log 1. -/
abbrev powerOnS : Byte := 0x00

/-- PC before the first step, which R31 leaves unspecified. DESIGN CHOICE, unsafe: log 1. -/
abbrev powerOnPc : Word := 0x0000

/-- VramRead (R164, D17): the n-th free value drawn, when it answers a data-register read.
A free value: nothing constrains it. Log 3. -/
opaque vramRead : Nat → Byte

/-- SpriteStatusBits (R162, D18): the n-th free value drawn, when it answers a status read.
A free value: nothing constrains it. Log 4. -/
opaque spriteStatusBits : Nat → BitVec 2

/-- Cart.read of a cartridge that is no list of windows (R42, R49, D14): from the cartridge's own state and the address,
the byte and the state after the read, or none. A free value: nothing constrains it. Log 5. -/
opaque cartRead : Nat → Word → Option (Byte × Nat)

/-- Cart.write of such a cartridge (R42, D14): the state after the write, or none. A free value: nothing constrains
it. Log 5. -/
opaque cartWrite : Nat → Word → Byte → Option Nat

end Sys2Proof.Config
end

