-- ==== Sys2Proof/Machine/State.lean ====
section
/-! DEFINITION. The state of the machine as plain data (spec/10_state.md), the ways a step can stop,
and the power-on state (R31, R185). -/

namespace Sys2Proof.Machine

/-- Byte storage keyed by backing index: ascending keys, no entry equal to what an unlisted key reads
as (Machine/Memory.lean: `Memory.wf`). -/
abbrev Memory := List Host.Cell

/-- The six stored flags of P (R16, R17). Bits 4 and 5 are not stored. -/
structure Flags where
  n : Bool
  v : Bool
  d : Bool
  i : Bool
  z : Bool
  c : Bool
  deriving DecidableEq, Repr

/-- The fault record of R21. -/
inductive FaultRecord where
  | unimplementedOpcode (op : Byte) (pc : Word)
  | unmappedAddress (addr : Word)
  deriving DecidableEq, Repr

/-- The video timing unit (R24). -/
structure Video where
  scanline : Nat
  dot      : Nat
  ctrl     : Byte
  mask     : Byte
  vblank   : Bool
  oamaddr  : Byte
  oam      : Memory
  scrollX  : Byte
  scrollY  : Byte
  vaddr    : BitVec 14
  vaddrHi  : BitVec 6
  w        : Bool
  openBus  : Byte
  deriving DecidableEq, Repr

/-- One controller: its latched button mask and its read cursor, 0 to 8 (R28, C3). -/
structure Pad where
  latch  : Byte
  cursor : Nat
  deriving DecidableEq, Repr

/-- What a cartridge window does with a write (R42): it does not answer, it answers and ignores the byte (R43), or it
stores the byte in its image. -/
inductive WriteMode where
  | refused
  | ignored
  | stored
  deriving DecidableEq, Repr

/-- One address window of a cartridge: addresses `first` to `last`, its image of `size` bytes repeated
through the window (R42, R43). `image` is keyed by image offset. -/
structure CartWindow where
  first    : Word
  last     : Word
  size     : Nat
  image    : Memory
  readable : Bool
  onWrite  : WriteMode
  deriving DecidableEq, Repr

/-- The cartridge view `Cart` (R42, D14), a parameter of the machine held as data. Log 5. -/
inductive Cart where
  /-- ROM and RAM: the first window that covers an address answers for it; an address no window covers is answered
  `none`. -/
  | windows (ws : List CartWindow)
  /-- Any other cartridge, in the state `state` of its own: `Config.cartRead` and `Config.cartWrite` answer for it. -/
  | free (state : Nat)
  deriving DecidableEq, Repr

/-- The reference cartridge (R43) with program image `prg` of `size` bytes (16384 or 32768): it reads over
0x8000 to 0xFFFF, ignores writes there, and covers nothing below. -/
def Cart.reference (prg : Memory) (size : Nat) : Cart :=
  .windows [{ first := 0x8000, last := 0xFFFF, size := size, image := prg, readable := true, onWrite := .ignored }]

/-- The host's inputs as they stand at a step (R29, R180): HostReset and HostButtons[0..1]. -/
structure HostInput where
  reset    : Bool
  buttons1 : Byte
  buttons2 : Byte
  deriving DecidableEq, Repr

/-- All of the machine's state (R13 to R28), the parameters and inputs it is run with (R29, R30), and the
model's own fields, each marked so. -/
structure State where
  /-- A (R13). -/
  a : Byte
  /-- X (R13). -/
  x : Byte
  /-- Y (R13). -/
  y : Byte
  /-- S, the stack pointer (R13). -/
  sp : Byte
  /-- PC (R13, R15). -/
  pc : Word
  /-- The stored flags of P (R16, R17). -/
  flags : Flags
  /-- Latch `reset_pending` (R19). -/
  resetPending : Bool
  /-- Latch `nmi_pending` (R19). -/
  nmiPending : Bool
  /-- `halted` (R20). -/
  halted : Bool
  /-- `fault` (R21). -/
  fault : Option FaultRecord
  /-- Internal RAM at keys 0x000..0x7FF (R22) and I/O storage at keys 0x4000..0x4015 (R23). -/
  mem : Memory
  /-- The last byte written to 0x4017 (R23). -/
  io4017w : Byte
  /-- The video timing unit (R24). -/
  video : Video
  /-- Controller 1, at 0x4016 (R28). -/
  pad1 : Pad
  /-- Controller 2, at 0x4017 (R28). -/
  pad2 : Pad
  /-- The controllers' shared strobe (R28). -/
  strobe : Bool
  /-- The cartridge view, a parameter (R29, R42): only its own answers to bus accesses change it. Log 5. -/
  cart : Cart
  /-- The host's inputs as they stand (R29, R180). Log 6. -/
  host : HostInput
  /-- The host's inputs before the coming steps, the next one first; when empty, `host` stands on.
  The model's own form of an input. Log 6. -/
  hostScript : List HostInput
  /-- The model's own: the cycle count the last CPU step returned (R10, R11, R30). Log 7. -/
  cycles : Nat
  /-- The model's own: how many free values have been drawn. Log 3. -/
  draws : Nat
  /-- The model's own: the VramWrite outputs sent so far, newest first (R174); nothing reads it. Log 8. -/
  vramLog : List (BitVec 14 × Byte)
  deriving DecidableEq, Repr

/-- Why the machine stops. Each of the first two carries the state the faulting step leaves: the effects it
had before the fault, with the fault record written (R153). Log 9. -/
inductive Fault where
  /-- Raised by the fetch of an opcode byte with no table entry (R60, R151). Safe: the real chip runs on (R60). -/
  | unimplementedOpcode (op : Byte) (pc : Word) (after : State)
  /-- Raised by a bus access the router cannot serve (R35, R36, R80). Safe: the machine stops as R153 says. -/
  | unmappedAddress (addr : Word) (after : State)
  /-- Raised by a step from a HALTED state, from which no step is taken (R147, R148). Safe. -/
  | alreadyHalted
  /-- Raised by a step from a FAULTED state, from which no step is taken (R147, R148). Safe. -/
  | alreadyFaulted (record : FaultRecord)
  deriving DecidableEq, Repr

/-- Why an instruction has no meaning. No instruction of this model is refused. -/
inductive Refusal where
  /-- Raised by an arm of `exec` whose instruction has no meaning yet; no arm is one. Safe. -/
  | notModelled (mnemonic : String)
  deriving DecidableEq, Repr

/-- Power-on (R31, R185): the values the spec gives, and for those it leaves open the values logs 1, 2, 5
and 6 name. `reset_pending` is 1, so the first step is the reset sequence. -/
def State.reset : State where
  a := Config.powerOnA
  x := Config.powerOnX
  y := Config.powerOnY
  sp := Config.powerOnS
  pc := Config.powerOnPc
  flags := { n := false, v := false, d := false, i := false, z := false, c := false }
  resetPending := true
  nmiPending := false
  halted := false
  fault := none
  mem := []
  io4017w := 0x00
  video :=
    { scanline := 0, dot := 0, ctrl := 0x00, mask := 0x00, vblank := false, oamaddr := 0x00, oam := [],
      scrollX := 0x00, scrollY := 0x00, vaddr := 0, vaddrHi := 0, w := false, openBus := 0x00 }
  pad1 := { latch := 0x00, cursor := 0 }
  pad2 := { latch := 0x00, cursor := 0 }
  strobe := false
  cart := Cart.reference [] 16384
  host := { reset := false, buttons1 := 0x00, buttons2 := 0x00 }
  hostScript := []
  cycles := 0
  draws := 0
  vramLog := []

end Sys2Proof.Machine
end

