-- ==== Sys2Proof/Machine/Memory.lean ====
section
/-! DEFINITION. Byte storage: reading and writing one byte of a `Memory`, and its canonical form. -/

namespace Sys2Proof.Machine

/-- What a key that is not listed reads as: 0x00. The spec gives it for the I/O storage (R39); for RAM and OAM
it is the spec's reference power-on value (D30), for the cartridge image a DESIGN CHOICE, unsafe: log 2. -/
def unlistedByte : Byte := 0x00

/-- The byte stored at key `k`. -/
def Memory.read : Memory → Nat → Byte
  | [], _ => unlistedByte
  | (a, b) :: rest, k => if a = k then b else Memory.read rest k

/-- Forget whatever is listed at key `k`. -/
def Memory.erase (m : Memory) (k : Nat) : Memory :=
  m.filter fun cell => cell.1 != k

/-- List byte `b` at key `k`, before the first greater key. -/
def Memory.insert : Memory → Nat → Byte → Memory
  | [], k, b => [(k, b)]
  | (a, c) :: rest, k, b => if k < a then (k, b) :: (a, c) :: rest else (a, c) :: Memory.insert rest k b

/-- Store byte `b` at key `k`; storing what an unlisted key reads as removes the entry. -/
def Memory.write (m : Memory) (k : Nat) (b : Byte) : Memory :=
  if b = unlistedByte then m.erase k else (m.erase k).insert k b

/-- The canonical form: keys strictly rise and no entry equals what an unlisted key reads as. -/
abbrev Memory.wf (m : Memory) : Prop :=
  m.Pairwise (fun c d => c.1 < d.1) ∧ ∀ c ∈ m, c.2 ≠ unlistedByte

end Sys2Proof.Machine
end

