-- ==== Sys2Proof/Machine/Cart.lean ====
section
/-! DEFINITION. The cartridge view (spec/20_memory.md R42, R43, R49): what a cartridge answers to a bus access, and
what the access makes of it. Log 5. -/

namespace Sys2Proof.Machine

/-- Whether a cartridge window covers an address. -/
def CartWindow.covers (w : CartWindow) (addr : Word) : Bool :=
  decide (w.first.toNat ≤ addr.toNat ∧ addr.toNat ≤ w.last.toNat)

/-- The image offset an address reaches: the image repeats through the window (R42, R43). -/
def CartWindow.offset (w : CartWindow) (addr : Word) : Nat :=
  (addr.toNat - w.first.toNat) % w.size

/-- A window's answer to a write to an address it covers (R42, R43). -/
def CartWindow.write (w : CartWindow) (addr : Word) (v : Byte) : Option CartWindow :=
  match w.onWrite with
  | .refused => none
  | .ignored => some w
  | .stored => some { w with image := w.image.write (w.offset addr) v }

/-- A write answered by the first window that covers the address. -/
def writeWindows (addr : Word) (v : Byte) : List CartWindow → Option (List CartWindow)
  | [] => none
  | w :: ws => if w.covers addr then (w.write addr v).map (· :: ws) else (writeWindows addr v ws).map (w :: ·)

/-- The byte a cartridge of windows holds at an address, where one answers a read of it (R42). None for any other
cartridge: a read of one may change it. -/
def Cart.peek (c : Cart) (addr : Word) : Option Byte :=
  match c with
  | .windows ws =>
    match ws.find? (·.covers addr) with
    | some w => if w.readable then some (w.image.read (w.offset addr)) else none
    | none => none
  | .free _ => none

/-- Cart.read (R42): the byte, and the cartridge after the read, whose side effect is the cartridge's own (R49); a read
of a window has none. -/
def Cart.read (c : Cart) (addr : Word) : Option (Byte × Cart) :=
  match c with
  | .windows ws => ((Cart.windows ws).peek addr).map (·, .windows ws)
  | .free k => (Config.cartRead k addr).map fun r => (r.1, .free r.2)

/-- Cart.write (R42): the cartridge after a write it answers. -/
def Cart.write (c : Cart) (addr : Word) (v : Byte) : Option Cart :=
  match c with
  | .windows ws => (writeWindows addr v ws).map .windows
  | .free k => (Config.cartWrite k addr v).map .free

/-- The images of a cartridge's windows. -/
def Cart.images (c : Cart) : List Memory :=
  match c with
  | .windows ws => ws.map CartWindow.image
  | .free _ => []

/-- Every image of a cartridge's windows is in canonical form. -/
abbrev Cart.wf (c : Cart) : Prop := ∀ m ∈ c.images, m.wf

/-! ### Placing an image byte -/

/-- Put byte `b` in the image of the first window that covers `addr`, whatever it does with a write. -/
def placeInWindows (addr : Word) (b : Byte) : List CartWindow → List CartWindow
  | [] => []
  | w :: ws =>
    if w.covers addr then { w with image := w.image.write (w.offset addr) b } :: ws
    else w :: placeInWindows addr b ws

end Sys2Proof.Machine
end

