-- ==== Sys2Proof/Machine/Controllers.lean ====
section
/-! DEFINITION. The two controller shift registers and their shared strobe (spec/60_exceptions.md section 4). -/

namespace Sys2Proof.Machine

/-- Controller 1 at 0x4016, controller 2 at 0x4017 (R40). -/
inductive Port where
  | one | two
  deriving DecidableEq, Repr

/-- The controller at a port. -/
def State.pad (s : State) : Port → Pad
  | .one => s.pad1
  | .two => s.pad2

/-- Replace the controller at a port. -/
def State.setPad (s : State) (p : Port) (v : Pad) : State :=
  match p with
  | .one => { s with pad1 := v }
  | .two => { s with pad2 := v }

/-- HostButtons[c] (R29). -/
def HostInput.buttons (h : HostInput) : Port → Byte
  | .one => h.buttons1
  | .two => h.buttons2

/-- Latch the live buttons and zero the cursor (R175, R176). -/
def reload (p : Port) (s : State) : State :=
  s.setPad p { latch := s.host.buttons p, cursor := 0 }

/-- What a controller read returns for button bit `b`: 0x40 | b (R176, D26). -/
def padByte (b : Bool) : Byte := 0x40 ||| (if b then 1 else 0)

/-- StrobeWrite (R175): only bit 0 of `v` counts. -/
def strobeWrite (v : Byte) (s : State) : State :=
  if v.getLsbD 0 then { reload .two (reload .one s) with strobe := true }
  else if s.strobe then { reload .two (reload .one s) with strobe := false }
  else s

/-- ControllerRead (R176): the byte and the state after it. -/
def controllerRead (p : Port) (s : State) : Byte × State :=
  if s.strobe then
    (padByte ((s.host.buttons p).getLsbD 7), reload p s)
  else if (s.pad p).cursor ≤ 7 then
    (padByte ((s.pad p).latch.getLsbD (7 - (s.pad p).cursor)),
      s.setPad p { latch := (s.pad p).latch, cursor := (s.pad p).cursor + 1 })
  else (0x41, s)

end Sys2Proof.Machine
end

