-- ==== Sys2Proof/Machine/Flags.lean ====
section
/-! DEFINITION. P as a byte (spec/10_state.md R17) and every flag computation of the instruction set
(spec/43_arithmetic_logic.md, 44_shift_rotate.md): functions of bytes and flags alone. -/

namespace Sys2Proof.Machine

/-- P as a byte with `b` in bit 4: N:V:1:b:D:I:Z:C (R17). -/
def Flags.image (f : Flags) (b : Bool) : Byte :=
  BitVec.ofBool f.n ++ BitVec.ofBool f.v ++ 1#1 ++ BitVec.ofBool b ++
    BitVec.ofBool f.d ++ BitVec.ofBool f.i ++ BitVec.ofBool f.z ++ BitVec.ofBool f.c

/-- P read as a whole: bit 5 reads 1 and bit 4 reads 0 (R17). -/
def Flags.toByte (f : Flags) : Byte := f.image false

/-- P_load: the six stored flags from a pulled byte; its bits 4 and 5 are ignored (R17). -/
def Flags.ofByte (m : Byte) : Flags :=
  { n := m.getLsbD 7, v := m.getLsbD 6, d := m.getLsbD 3, i := m.getLsbD 2, z := m.getLsbD 1, c := m.getLsbD 0 }

/-- SetZN (R10). -/
def Flags.setZN (f : Flags) (r : Byte) : Flags :=
  { f with z := decide (r = 0), n := r.getLsbD 7 }

/-- A flag as the byte 0 or 1. -/
def bitByte (b : Bool) : Byte := if b then 1 else 0

/-- AddCore (R100), with the carry flag as carry in: the result and the flags after it. The decimal flag has
no effect (R99, D8). -/
def addCore (a m : Byte) (f : Flags) : Byte × Flags :=
  let sum := a.toNat + m.toNat + f.c.toNat
  let r := BitVec.ofNat 8 sum
  (r, { f with
        c := decide (sum > 0xFF)
        v := (a.getLsbD 7 == m.getLsbD 7) && (r.getLsbD 7 != a.getLsbD 7)
        z := decide (r = 0)
        n := r.getLsbD 7 })

/-- Compare (R107). -/
def compareFlags (r m : Byte) (f : Flags) : Flags :=
  { f with c := decide (m.toNat ≤ r.toNat), z := decide (r = m), n := (r - m).getLsbD 7 }

/-- BIT (R106): Z from the and, N and V from the operand. -/
def bitFlags (a m : Byte) (f : Flags) : Flags :=
  { f with z := decide (a &&& m = 0), n := m.getLsbD 7, v := m.getLsbD 6 }

/-- The flags of a shift or rotate: C the bit shifted out, Z and N from the result (R117). -/
def shiftFlags (out : Bool) (r : Byte) (f : Flags) : Flags :=
  { f.setZN r with c := out }

/-- ASL (R118). -/
def aslCore (m : Byte) (f : Flags) : Byte × Flags :=
  let r := m <<< 1
  (r, shiftFlags (m.getLsbD 7) r f)

/-- LSR (R119). -/
def lsrCore (m : Byte) (f : Flags) : Byte × Flags :=
  let r := m >>> 1
  (r, shiftFlags (m.getLsbD 0) r f)

/-- ROL (R120): the old carry enters bit 0. -/
def rolCore (m : Byte) (f : Flags) : Byte × Flags :=
  let r := (m <<< 1) ||| bitByte f.c
  (r, shiftFlags (m.getLsbD 7) r f)

/-- ROR (R121): the old carry enters bit 7. -/
def rorCore (m : Byte) (f : Flags) : Byte × Flags :=
  let r := (bitByte f.c <<< 7) ||| (m >>> 1)
  (r, shiftFlags (m.getLsbD 0) r f)

end Sys2Proof.Machine
end

