-- ==== Sys2Proof/Machine/Video.lean ====
section
/-! DEFINITION. The video timing unit (spec/60_exceptions.md section 3): its tick, and the CPU's reads and
writes of its eight registers. -/

namespace Sys2Proof.Machine

/-- The eight video registers, in address order (R161). -/
inductive VReg where
  | ctrl | mask | status | oamAddr | oamData | scroll | addr | data
  deriving DecidableEq, Repr

/-- The register at index `r = addr & 7` (R161). -/
def VReg.ofIndex : Nat → VReg
  | 0 => .ctrl
  | 1 => .mask
  | 2 => .status
  | 3 => .oamAddr
  | 4 => .oamData
  | 5 => .scroll
  | 6 => .addr
  | _ => .data

/-- The counter's advance, the first half of a tick (R158). -/
def Video.advance (v : Video) : Video :=
  let line := if v.dot + 1 = Config.dots then v.scanline + 1 else v.scanline
  { v with
    dot := if v.dot + 1 = Config.dots then 0 else v.dot + 1
    scanline := if line = Config.scanlines then 0 else line }

/-- The vblank instant: scanline 241, dot 1 (R158). -/
def Video.atVblank (v : Video) : Bool :=
  v.scanline == Config.vblankLine && v.dot == 1

/-- The instant vblank is cleared without a read: scanline 261, dot 1 (R158, D20). -/
def Video.atPreRender (v : Video) : Bool :=
  v.scanline == Config.preRenderLine && v.dot == 1

/-- One tick (R158): advance, then examine the new position. Its second result is the NMI signal. -/
def Video.tick (v : Video) : Video × Bool :=
  let p := v.advance
  ({ p with vblank := if p.atPreRender then false else if p.atVblank then true else p.vblank },
    p.atVblank && p.ctrl.getLsbD 7)

/-- `n` ticks; the second result says whether any of them signalled an NMI (R178). -/
def Video.ticks : Nat → Video → Video × Bool
  | 0, v => (v, false)
  | n + 1, v =>
    let first := v.tick
    let rest := Video.ticks n first.1
    (rest.1, first.2 || rest.2)

/-- The address register after a data-register access: plus 32 or 1 by ctrl bit 2, modulo 2^14 (R164, D16). -/
def Video.nextVaddr (v : Video) : BitVec 14 :=
  v.vaddr + (if v.ctrl.getLsbD 2 then 32 else 1)

/-- A CPU read of a video register (R161 to R165): the byte and the state after it. -/
def videoRegRead (r : VReg) (s : State) : Byte × State :=
  match r with
  | .status =>
    (BitVec.ofBool s.video.vblank ++ Config.spriteStatusBits s.draws ++ s.video.openBus.extractLsb' 0 5,
      { s with video := { s.video with vblank := false, w := false }, draws := s.draws + 1 })
  | .oamData => (s.video.oam.read s.video.oamaddr.toNat, s)
  | .data =>
    (Config.vramRead s.draws, { s with video := { s.video with vaddr := s.video.nextVaddr }, draws := s.draws + 1 })
  | .ctrl | .mask | .oamAddr | .scroll | .addr => (s.video.openBus, s)

/-- The register's own action in a CPU write of `b` (R167 to R174), on the unit alone. -/
def Video.regWrite (v : Video) (r : VReg) (b : Byte) : Video :=
  match r with
  | .ctrl => { v with ctrl := b }
  | .mask => { v with mask := b }
  | .status => v
  | .oamAddr => { v with oamaddr := b }
  | .oamData => { v with oam := v.oam.write v.oamaddr.toNat b, oamaddr := v.oamaddr + 1 }
  | .scroll => if v.w then { v with scrollY := b, w := false } else { v with scrollX := b, w := true }
  | .addr =>
    if v.w then { v with vaddr := v.vaddrHi ++ b, w := false }
    else { v with vaddrHi := b.extractLsb' 0 6, w := true }
  | .data => { v with vaddr := v.nextVaddr }

/-- A CPU write of `b` to a video register: open bus first, then the register's action (R166, R167); a data write
also sends VramWrite(vaddr, b) (R174). -/
def videoRegWrite (r : VReg) (b : Byte) (s : State) : State :=
  { s with
    video := Video.regWrite { s.video with openBus := b } r b
    vramLog := match r with
      | .data => (s.video.vaddr, b) :: s.vramLog
      | .ctrl | .mask | .status | .oamAddr | .oamData | .scroll | .addr => s.vramLog }

end Sys2Proof.Machine
end

