-- ==== Sys2Proof/Machine/Ops.lean ====
section
/-! DEFINITION. The shared operations: register updates, the address router (spec/20_memory.md), the stack
(42_stack.md), taking an interrupt and returning from one (45_control_transfer.md, 60_exceptions.md). -/

namespace Sys2Proof.Machine

/-! ### Register updates -/

def State.setA (s : State) (v : Byte) : State := { s with a := v }
def State.setX (s : State) (v : Byte) : State := { s with x := v }
def State.setY (s : State) (v : Byte) : State := { s with y := v }
def State.setSp (s : State) (v : Byte) : State := { s with sp := v }
def State.setPc (s : State) (v : Word) : State := { s with pc := v }
def State.setFlags (s : State) (v : Flags) : State := { s with flags := v }
def State.setMem (s : State) (v : Memory) : State := { s with mem := v }
def State.setCycles (s : State) (v : Nat) : State := { s with cycles := v }

/-- PC past an instruction of `n` bytes, modulo 2^16 (R15). -/
def State.advance (s : State) (n : Nat) : State := s.setPc (s.pc + BitVec.ofNat 16 n)

/-! ### Outcomes -/

/-- The outcome of a meaning. -/
abbrev Out := Host.Outcome State Fault Refusal

/-- The result of an operation that uses the bus: a value and the state after it, or the address the router could
not serve and the state the earlier effects left (R80). -/
inductive Res (α : Type) where
  | ok (value : α) (s : State)
  | unmapped (addr : Word) (s : State)
  deriving DecidableEq, Repr

/-- Go on after a success; stop at an unmapped access (R80). -/
def Res.bind {α β : Type} (r : Res α) (f : α → State → Res β) : Res β :=
  match r with
  | .ok v s => f v s
  | .unmapped addr s => .unmapped addr s

/-- UnmappedAddress: the record is written into the state the step leaves (R21, R153). -/
def raiseUnmapped (addr : Word) (s : State) : Out :=
  .fault (.unmappedAddress addr { s with fault := some (.unmappedAddress addr) })

/-- UnimplementedOpcode, as `raiseUnmapped` (R60, R153). -/
def raiseUnimplemented (op : Byte) (pc : Word) (s : State) : Out :=
  .fault (.unimplementedOpcode op pc { s with fault := some (.unimplementedOpcode op pc) })

/-- The end of a step: its cycle count and the next state, or the fault (R11). -/
def finish (r : Res Nat) : Out :=
  match r with
  | .ok c s => .next (s.setCycles c)
  | .unmapped addr s => raiseUnmapped addr s

/-! ### The router -/

/-- Where the router sends an address (R33). -/
inductive Region where
  | ram (i : Nat)
  | vreg (r : VReg)
  | io (i : Nat)
  | pad (p : Port)
  | unmapped
  | cart
  deriving DecidableEq, Repr

/-- The routing function (R34). `addr & 0x07FF` and `addr & 0x0007` are the remainders modulo 0x800 and 8. -/
def route (addr : Word) : Region :=
  let a := addr.toNat
  if a ≤ 0x1FFF then .ram (a % 0x0800)
  else if a ≤ 0x3FFF then .vreg (VReg.ofIndex (a % 8))
  else if a ≤ 0x4015 then .io a
  else if a = 0x4016 then .pad .one
  else if a = 0x4017 then .pad .two
  else if a ≤ 0x401F then .unmapped
  else .cart

/-- MemRead(addr, 1) (R35). -/
def memRead (addr : Word) (s : State) : Res Byte :=
  match route addr with
  | .ram i => .ok (s.mem.read i) s
  | .vreg r => .ok (videoRegRead r s).1 (videoRegRead r s).2
  | .io i => .ok (s.mem.read i) s
  | .pad p => .ok (controllerRead p s).1 (controllerRead p s).2
  | .unmapped => .unmapped addr s
  | .cart =>
    match s.cart.read addr with
    | some (b, c) => .ok b { s with cart := c }
    | none => .unmapped addr s

/-- MemWrite(addr, 1, v) (R36). -/
def memWrite (addr : Word) (v : Byte) (s : State) : Res Unit :=
  match route addr with
  | .ram i => .ok () (s.setMem (s.mem.write i v))
  | .vreg r => .ok () (videoRegWrite r v s)
  | .io i => .ok () (s.setMem (s.mem.write i v))
  | .pad .one => .ok () (strobeWrite v s)
  | .pad .two => .ok () { s with io4017w := v }
  | .unmapped => .unmapped addr s
  | .cart =>
    match s.cart.write addr v with
    | some c => .ok () { s with cart := c }
    | none => .unmapped addr s

/-- MemRead16(a_lo, a_hi) (R10): low byte first (R46). -/
def memRead16 (aLo aHi : Word) (s : State) : Res Word :=
  (memRead aLo s).bind fun l s1 =>
  (memRead aHi s1).bind fun h s2 =>
  .ok (join h l) s2

/-- The byte of plain storage behind an address, with no side effect: RAM, I/O storage and a cartridge's windows. None
for a device register, a controller port, a cartridge that is no list of windows, and an address nothing answers. -/
def State.peek (s : State) (addr : Word) : Option Byte :=
  match route addr with
  | .ram i => some (s.mem.read i)
  | .io i => some (s.mem.read i)
  | .cart => s.cart.peek addr
  | .vreg _ | .pad _ | .unmapped => none

/-! ### The stack -/

/-- The stack address for S: 0x0100 | S (R45). -/
def stackAddr (sp : Byte) : Word := join 0x01 sp

/-- Push (R93): write, then decrement. -/
def push (v : Byte) (s : State) : Res Unit :=
  (memWrite (stackAddr s.sp) v s).bind fun _ s1 => .ok () (s1.setSp (s1.sp - 1))

/-- Pull (R93): increment, then read. -/
def pull (s : State) : Res Byte :=
  memRead (stackAddr (s.sp + 1)) (s.setSp (s.sp + 1))

/-- A 16-bit push, high byte first (R94). -/
def push16 (v : Word) (s : State) : Res Unit :=
  (push (hi v) s).bind fun _ s1 => push (lo v) s1

/-- A 16-bit pull, low byte first (R94). -/
def pull16 (s : State) : Res Word :=
  (pull s).bind fun l s1 =>
  (pull s1).bind fun h s2 =>
  .ok (join h l) s2

/-! ### Taking an interrupt, and returning from one -/

/-- The entry BRK and the NMI sequence share (R127, R150): push the return address and P with `b` in bit 4, set I,
load PC from the vector. -/
def enterInterrupt (ret : Word) (b : Bool) (vector : Word) (s : State) : Res Unit :=
  (push16 ret s).bind fun _ s1 =>
  (push (s1.flags.image b) s1).bind fun _ s2 =>
  (memRead16 vector (vector + 1) (s2.setFlags { s2.flags with i := true })).bind fun target s3 =>
  .ok () (s3.setPc target)

/-- The return (R128, R156): pull P, its bits 4 and 5 ignored, then PC, with no increment. -/
def returnFromInterrupt (s : State) : Res Unit :=
  (pull s).bind fun m s1 =>
  (pull16 (s1.setFlags (Flags.ofByte m))).bind fun target s2 =>
  .ok () (s2.setPc target)

/-- The reset sequence (R149): S down by 3 with no bus write, PC from the vector, then I set. -/
def resetSeq (s : State) : Out :=
  finish <|
    (memRead16 Config.resetVector (Config.resetVector + 1)
      { s with resetPending := false, sp := s.sp - 3 }).bind fun target s1 =>
    .ok Config.interruptCycles ((s1.setPc target).setFlags { s1.flags with i := true })

/-- The NMI sequence (R150), whatever I is. -/
def nmiSeq (s : State) : Out :=
  finish <|
    (enterInterrupt s.pc false Config.nmiVector { s with nmiPending := false }).bind fun _ s1 =>
    .ok Config.interruptCycles s1

end Sys2Proof.Machine
end

