-- ==== Sys2Proof/Machine/Operands.lean ====
section
/-! DEFINITION. The addressing modes (spec/40_addressing_modes.md R64 to R78) and the operand-use classes
(R79): how an instruction reads, writes or modifies its operand, advances PC and counts its cycles. The
operand bytes have been fetched; `s.pc` is still the opcode's address. -/

namespace Sys2Proof.Machine

/-- What an address mode resolves to (R64). -/
structure Resolved where
  ea : Word
  crossed : Bool
  deriving DecidableEq, Repr

/-- Indexing an absolute base: the sum modulo 2^16, crossed when its high byte differs from the base's (R72, R73). -/
def indexed (base : Word) (index : Byte) : Resolved :=
  let ea := base + index.setWidth 16
  { ea := ea, crossed := decide (hi base ≠ hi ea) }

/-- A zero-page pointer at `p`: its second byte wraps within the page (R74, R75). -/
def zeroPagePointer (p : Byte) (s : State) : Res Word :=
  memRead16 (join 0 p) (join 0 (p + 1)) s

/-- Resolve for every mode that names an address (R64, R68 to R77). -/
def resolve (m : Address) (s : State) : Res Resolved :=
  match m with
  | .zp b => .ok { ea := join 0 b, crossed := false } s
  | .zpx b => .ok { ea := join 0 (b + s.x), crossed := false } s
  | .zpy b => .ok { ea := join 0 (b + s.y), crossed := false } s
  | .abs w => .ok { ea := w, crossed := false } s
  | .abx w => .ok (indexed w s.x) s
  | .aby w => .ok (indexed w s.y) s
  | .izx b => (zeroPagePointer (b + s.x) s).bind fun p s1 => .ok { ea := p, crossed := false } s1
  | .izy b => (zeroPagePointer b s).bind fun p s1 => .ok (indexed p s1.y) s1
  | .ind w => (memRead16 w (join (hi w) (lo w + 1)) s).bind fun p s1 => .ok { ea := p, crossed := false } s1
  | .rel d =>
    let next := s.pc + 2
    let target := next + BitVec.ofInt 16 d
    .ok { ea := target, crossed := decide (hi target ≠ hi next) } s

/-- The page-cross cycle of a read-class data mode (R78). -/
def Resolved.extra (r : Resolved) : Nat := if r.crossed then 1 else 0

/-- Read class, immediate: the operand is the byte `v`; 2 bytes, 2 cycles (R67, R79). -/
def readImm (v : Byte) (f : Byte → State → State) (s : State) : Out :=
  finish (.ok 2 ((f v s).advance 2))

/-- Read class, memory: one data read at EA, and one more cycle on a page cross (R78, R79). -/
def readMem (m : Address) (cycles : Nat) (f : Byte → State → State) (s : State) : Out :=
  finish <|
    (resolve m s).bind fun r s1 =>
    (memRead r.ea s1).bind fun v s2 =>
    .ok (cycles + r.extra) ((f v s2).advance m.length)

/-- Write class: one data write of `v` at EA, no read of EA, no page-cross cycle (R78, R79). -/
def writeMem (m : Address) (cycles : Nat) (v : Byte) (s : State) : Out :=
  finish <|
    (resolve m s).bind fun r s1 =>
    (memWrite r.ea v s1).bind fun _ s2 =>
    .ok cycles (s2.advance m.length)

/-- Read-modify-write of a shift or rotate: read, then the flags, then the write (R117). -/
def shiftMem (m : Address) (cycles : Nat) (f : Byte → Flags → Byte × Flags) (s : State) : Out :=
  finish <|
    (resolve m s).bind fun r s1 =>
    (memRead r.ea s1).bind fun v s2 =>
    let result := f v s2.flags
    (memWrite r.ea result.1 (s2.setFlags result.2)).bind fun _ s3 =>
    .ok cycles (s3.advance m.length)

/-- Read-modify-write of INC and DEC: read, write, then the flags (R111, R112). -/
def countMem (m : Address) (cycles : Nat) (f : Byte → Byte) (s : State) : Out :=
  finish <|
    (resolve m s).bind fun r s1 =>
    (memRead r.ea s1).bind fun v s2 =>
    (memWrite r.ea (f v) s2).bind fun _ s3 =>
    .ok cycles ((s3.setFlags (s3.flags.setZN (f v))).advance m.length)

/-- A one-byte instruction with no bus access of its own: 2 cycles (R65). -/
def implied (f : State → State) (s : State) : Out :=
  finish (.ok 2 ((f s).advance 1))

/-- The accumulator form of a shift or rotate (R66, R117). -/
def shiftAcc (f : Byte → Flags → Byte × Flags) (s : State) : Out :=
  implied (fun s => (s.setFlags (f s.a s.flags).2).setA (f s.a s.flags).1) s

/-- A conditional branch (R129): 2 cycles, 3 if taken, 4 if taken to another page. -/
def branch (taken : Bool) (d : Int) (s : State) : Out :=
  finish <|
    (resolve (.rel d) s).bind fun r s1 =>
    if taken then .ok (3 + r.extra) (s1.setPc r.ea) else .ok 2 (s1.advance 2)

end Sys2Proof.Machine
end

