-- ==== Sys2Proof/Machine/LoadStore.lean ====
section
/-! DEFINITION. Loads, stores and register transfers (spec/41_load_store_transfer.md R81 to R92). -/

namespace Sys2Proof.Machine

/-- A <- v; SetZN(A) (R81). -/
def loadA (v : Byte) (s : State) : State := (s.setA v).setFlags (s.flags.setZN v)

/-- X <- v; SetZN(X) (R82). -/
def loadX (v : Byte) (s : State) : State := (s.setX v).setFlags (s.flags.setZN v)

/-- Y <- v; SetZN(Y) (R83). -/
def loadY (v : Byte) (s : State) : State := (s.setY v).setFlags (s.flags.setZN v)

/-- LDA #, opcode A9 (R81). -/
def execLdaImm (v : Byte) (s : State) : Out :=
  readImm v loadA s

/-- LDA zp, opcode A5 (R81). -/
def execLdaZp (b : Byte) (s : State) : Out :=
  readMem (.zp b) 3 loadA s

/-- LDA zp,X, opcode B5 (R81). -/
def execLdaZpx (b : Byte) (s : State) : Out :=
  readMem (.zpx b) 4 loadA s

/-- LDA abs, opcode AD (R81). -/
def execLdaAbs (w : Word) (s : State) : Out :=
  readMem (.abs w) 4 loadA s

/-- LDA abs,X, opcode BD (R81). -/
def execLdaAbx (w : Word) (s : State) : Out :=
  readMem (.abx w) 4 loadA s

/-- LDA abs,Y, opcode B9 (R81). -/
def execLdaAby (w : Word) (s : State) : Out :=
  readMem (.aby w) 4 loadA s

/-- LDA (zp,X), opcode A1 (R81). -/
def execLdaIzx (b : Byte) (s : State) : Out :=
  readMem (.izx b) 6 loadA s

/-- LDA (zp),Y, opcode B1 (R81). -/
def execLdaIzy (b : Byte) (s : State) : Out :=
  readMem (.izy b) 5 loadA s

/-- LDX #, opcode A2 (R82). -/
def execLdxImm (v : Byte) (s : State) : Out :=
  readImm v loadX s

/-- LDX zp, opcode A6 (R82). -/
def execLdxZp (b : Byte) (s : State) : Out :=
  readMem (.zp b) 3 loadX s

/-- LDX zp,Y, opcode B6 (R82). -/
def execLdxZpy (b : Byte) (s : State) : Out :=
  readMem (.zpy b) 4 loadX s

/-- LDX abs, opcode AE (R82). -/
def execLdxAbs (w : Word) (s : State) : Out :=
  readMem (.abs w) 4 loadX s

/-- LDX abs,Y, opcode BE (R82). -/
def execLdxAby (w : Word) (s : State) : Out :=
  readMem (.aby w) 4 loadX s

/-- LDY #, opcode A0 (R83). -/
def execLdyImm (v : Byte) (s : State) : Out :=
  readImm v loadY s

/-- LDY zp, opcode A4 (R83). -/
def execLdyZp (b : Byte) (s : State) : Out :=
  readMem (.zp b) 3 loadY s

/-- LDY zp,X, opcode B4 (R83). -/
def execLdyZpx (b : Byte) (s : State) : Out :=
  readMem (.zpx b) 4 loadY s

/-- LDY abs, opcode AC (R83). -/
def execLdyAbs (w : Word) (s : State) : Out :=
  readMem (.abs w) 4 loadY s

/-- LDY abs,X, opcode BC (R83). -/
def execLdyAbx (w : Word) (s : State) : Out :=
  readMem (.abx w) 4 loadY s

/-- STA zp, opcode 85 (R84). -/
def execStaZp (b : Byte) (s : State) : Out :=
  writeMem (.zp b) 3 s.a s

/-- STA zp,X, opcode 95 (R84). -/
def execStaZpx (b : Byte) (s : State) : Out :=
  writeMem (.zpx b) 4 s.a s

/-- STA abs, opcode 8D (R84). -/
def execStaAbs (w : Word) (s : State) : Out :=
  writeMem (.abs w) 4 s.a s

/-- STA abs,X, opcode 9D (R84). -/
def execStaAbx (w : Word) (s : State) : Out :=
  writeMem (.abx w) 5 s.a s

/-- STA abs,Y, opcode 99 (R84). -/
def execStaAby (w : Word) (s : State) : Out :=
  writeMem (.aby w) 5 s.a s

/-- STA (zp,X), opcode 81 (R84). -/
def execStaIzx (b : Byte) (s : State) : Out :=
  writeMem (.izx b) 6 s.a s

/-- STA (zp),Y, opcode 91 (R84). -/
def execStaIzy (b : Byte) (s : State) : Out :=
  writeMem (.izy b) 6 s.a s

/-- STX zp, opcode 86 (R85). -/
def execStxZp (b : Byte) (s : State) : Out :=
  writeMem (.zp b) 3 s.x s

/-- STX zp,Y, opcode 96 (R85). -/
def execStxZpy (b : Byte) (s : State) : Out :=
  writeMem (.zpy b) 4 s.x s

/-- STX abs, opcode 8E (R85). -/
def execStxAbs (w : Word) (s : State) : Out :=
  writeMem (.abs w) 4 s.x s

/-- STY zp, opcode 84 (R86). -/
def execStyZp (b : Byte) (s : State) : Out :=
  writeMem (.zp b) 3 s.y s

/-- STY zp,X, opcode 94 (R86). -/
def execStyZpx (b : Byte) (s : State) : Out :=
  writeMem (.zpx b) 4 s.y s

/-- STY abs, opcode 8C (R86). -/
def execStyAbs (w : Word) (s : State) : Out :=
  writeMem (.abs w) 4 s.y s

/-- TAX, opcode AA (R87). -/
def execTax (s : State) : Out :=
  implied (fun s => loadX s.a s) s

/-- TAY, opcode A8 (R88). -/
def execTay (s : State) : Out :=
  implied (fun s => loadY s.a s) s

/-- TXA, opcode 8A (R89). -/
def execTxa (s : State) : Out :=
  implied (fun s => loadA s.x s) s

/-- TYA, opcode 98 (R90). -/
def execTya (s : State) : Out :=
  implied (fun s => loadA s.y s) s

/-- TSX, opcode BA (R91). -/
def execTsx (s : State) : Out :=
  implied (fun s => loadX s.sp s) s

/-- TXS, opcode 9A (R92). -/
def execTxs (s : State) : Out :=
  implied (fun s => s.setSp s.x) s

end Sys2Proof.Machine
end

