-- ==== Sys2Proof/Machine/Arithmetic.lean ====
section
/-! DEFINITION. Arithmetic, logic, compare, increment and decrement (spec/43_arithmetic_logic.md R99 to R116). -/

namespace Sys2Proof.Machine

/-- A <- AddCore(A, m, C) (R101). -/
def addA (m : Byte) (s : State) : State :=
  (s.setA (addCore s.a m s.flags).1).setFlags (addCore s.a m s.flags).2

/-- A <- AddCore(A, ~m, C) (R102). -/
def subA (m : Byte) (s : State) : State := addA (~~~m) s

/-- A <- A & m; SetZN(A) (R103). -/
def andA (m : Byte) (s : State) : State := loadA (s.a &&& m) s

/-- A <- A | m; SetZN(A) (R104). -/
def orA (m : Byte) (s : State) : State := loadA (s.a ||| m) s

/-- A <- A ^ m; SetZN(A) (R105). -/
def eorA (m : Byte) (s : State) : State := loadA (s.a ^^^ m) s

/-- BIT's flags (R106). -/
def testA (m : Byte) (s : State) : State := s.setFlags (bitFlags s.a m s.flags)

/-- Compare(A, m) (R108). -/
def compareA (m : Byte) (s : State) : State := s.setFlags (compareFlags s.a m s.flags)

/-- Compare(X, m) (R109). -/
def compareX (m : Byte) (s : State) : State := s.setFlags (compareFlags s.x m s.flags)

/-- Compare(Y, m) (R110). -/
def compareY (m : Byte) (s : State) : State := s.setFlags (compareFlags s.y m s.flags)

/-- ADC #, opcode 69 (R101). -/
def execAdcImm (v : Byte) (s : State) : Out :=
  readImm v addA s

/-- ADC zp, opcode 65 (R101). -/
def execAdcZp (b : Byte) (s : State) : Out :=
  readMem (.zp b) 3 addA s

/-- ADC zp,X, opcode 75 (R101). -/
def execAdcZpx (b : Byte) (s : State) : Out :=
  readMem (.zpx b) 4 addA s

/-- ADC abs, opcode 6D (R101). -/
def execAdcAbs (w : Word) (s : State) : Out :=
  readMem (.abs w) 4 addA s

/-- ADC abs,X, opcode 7D (R101). -/
def execAdcAbx (w : Word) (s : State) : Out :=
  readMem (.abx w) 4 addA s

/-- ADC abs,Y, opcode 79 (R101). -/
def execAdcAby (w : Word) (s : State) : Out :=
  readMem (.aby w) 4 addA s

/-- ADC (zp,X), opcode 61 (R101). -/
def execAdcIzx (b : Byte) (s : State) : Out :=
  readMem (.izx b) 6 addA s

/-- ADC (zp),Y, opcode 71 (R101). -/
def execAdcIzy (b : Byte) (s : State) : Out :=
  readMem (.izy b) 5 addA s

/-- SBC #, opcode E9 (R102). -/
def execSbcImm (v : Byte) (s : State) : Out :=
  readImm v subA s

/-- SBC zp, opcode E5 (R102). -/
def execSbcZp (b : Byte) (s : State) : Out :=
  readMem (.zp b) 3 subA s

/-- SBC zp,X, opcode F5 (R102). -/
def execSbcZpx (b : Byte) (s : State) : Out :=
  readMem (.zpx b) 4 subA s

/-- SBC abs, opcode ED (R102). -/
def execSbcAbs (w : Word) (s : State) : Out :=
  readMem (.abs w) 4 subA s

/-- SBC abs,X, opcode FD (R102). -/
def execSbcAbx (w : Word) (s : State) : Out :=
  readMem (.abx w) 4 subA s

/-- SBC abs,Y, opcode F9 (R102). -/
def execSbcAby (w : Word) (s : State) : Out :=
  readMem (.aby w) 4 subA s

/-- SBC (zp,X), opcode E1 (R102). -/
def execSbcIzx (b : Byte) (s : State) : Out :=
  readMem (.izx b) 6 subA s

/-- SBC (zp),Y, opcode F1 (R102). -/
def execSbcIzy (b : Byte) (s : State) : Out :=
  readMem (.izy b) 5 subA s

/-- AND #, opcode 29 (R103). -/
def execAndImm (v : Byte) (s : State) : Out :=
  readImm v andA s

/-- AND zp, opcode 25 (R103). -/
def execAndZp (b : Byte) (s : State) : Out :=
  readMem (.zp b) 3 andA s

/-- AND zp,X, opcode 35 (R103). -/
def execAndZpx (b : Byte) (s : State) : Out :=
  readMem (.zpx b) 4 andA s

/-- AND abs, opcode 2D (R103). -/
def execAndAbs (w : Word) (s : State) : Out :=
  readMem (.abs w) 4 andA s

/-- AND abs,X, opcode 3D (R103). -/
def execAndAbx (w : Word) (s : State) : Out :=
  readMem (.abx w) 4 andA s

/-- AND abs,Y, opcode 39 (R103). -/
def execAndAby (w : Word) (s : State) : Out :=
  readMem (.aby w) 4 andA s

/-- AND (zp,X), opcode 21 (R103). -/
def execAndIzx (b : Byte) (s : State) : Out :=
  readMem (.izx b) 6 andA s

/-- AND (zp),Y, opcode 31 (R103). -/
def execAndIzy (b : Byte) (s : State) : Out :=
  readMem (.izy b) 5 andA s

/-- ORA #, opcode 09 (R104). -/
def execOraImm (v : Byte) (s : State) : Out :=
  readImm v orA s

/-- ORA zp, opcode 05 (R104). -/
def execOraZp (b : Byte) (s : State) : Out :=
  readMem (.zp b) 3 orA s

/-- ORA zp,X, opcode 15 (R104). -/
def execOraZpx (b : Byte) (s : State) : Out :=
  readMem (.zpx b) 4 orA s

/-- ORA abs, opcode 0D (R104). -/
def execOraAbs (w : Word) (s : State) : Out :=
  readMem (.abs w) 4 orA s

/-- ORA abs,X, opcode 1D (R104). -/
def execOraAbx (w : Word) (s : State) : Out :=
  readMem (.abx w) 4 orA s

/-- ORA abs,Y, opcode 19 (R104). -/
def execOraAby (w : Word) (s : State) : Out :=
  readMem (.aby w) 4 orA s

/-- ORA (zp,X), opcode 01 (R104). -/
def execOraIzx (b : Byte) (s : State) : Out :=
  readMem (.izx b) 6 orA s

/-- ORA (zp),Y, opcode 11 (R104). -/
def execOraIzy (b : Byte) (s : State) : Out :=
  readMem (.izy b) 5 orA s

/-- EOR #, opcode 49 (R105). -/
def execEorImm (v : Byte) (s : State) : Out :=
  readImm v eorA s

/-- EOR zp, opcode 45 (R105). -/
def execEorZp (b : Byte) (s : State) : Out :=
  readMem (.zp b) 3 eorA s

/-- EOR zp,X, opcode 55 (R105). -/
def execEorZpx (b : Byte) (s : State) : Out :=
  readMem (.zpx b) 4 eorA s

/-- EOR abs, opcode 4D (R105). -/
def execEorAbs (w : Word) (s : State) : Out :=
  readMem (.abs w) 4 eorA s

/-- EOR abs,X, opcode 5D (R105). -/
def execEorAbx (w : Word) (s : State) : Out :=
  readMem (.abx w) 4 eorA s

/-- EOR abs,Y, opcode 59 (R105). -/
def execEorAby (w : Word) (s : State) : Out :=
  readMem (.aby w) 4 eorA s

/-- EOR (zp,X), opcode 41 (R105). -/
def execEorIzx (b : Byte) (s : State) : Out :=
  readMem (.izx b) 6 eorA s

/-- EOR (zp),Y, opcode 51 (R105). -/
def execEorIzy (b : Byte) (s : State) : Out :=
  readMem (.izy b) 5 eorA s

/-- BIT zp, opcode 24 (R106). -/
def execBitZp (b : Byte) (s : State) : Out :=
  readMem (.zp b) 3 testA s

/-- BIT abs, opcode 2C (R106). -/
def execBitAbs (w : Word) (s : State) : Out :=
  readMem (.abs w) 4 testA s

/-- CMP #, opcode C9 (R108). -/
def execCmpImm (v : Byte) (s : State) : Out :=
  readImm v compareA s

/-- CMP zp, opcode C5 (R108). -/
def execCmpZp (b : Byte) (s : State) : Out :=
  readMem (.zp b) 3 compareA s

/-- CMP zp,X, opcode D5 (R108). -/
def execCmpZpx (b : Byte) (s : State) : Out :=
  readMem (.zpx b) 4 compareA s

/-- CMP abs, opcode CD (R108). -/
def execCmpAbs (w : Word) (s : State) : Out :=
  readMem (.abs w) 4 compareA s

/-- CMP abs,X, opcode DD (R108). -/
def execCmpAbx (w : Word) (s : State) : Out :=
  readMem (.abx w) 4 compareA s

/-- CMP abs,Y, opcode D9 (R108). -/
def execCmpAby (w : Word) (s : State) : Out :=
  readMem (.aby w) 4 compareA s

/-- CMP (zp,X), opcode C1 (R108). -/
def execCmpIzx (b : Byte) (s : State) : Out :=
  readMem (.izx b) 6 compareA s

/-- CMP (zp),Y, opcode D1 (R108). -/
def execCmpIzy (b : Byte) (s : State) : Out :=
  readMem (.izy b) 5 compareA s

/-- CPX #, opcode E0 (R109). -/
def execCpxImm (v : Byte) (s : State) : Out :=
  readImm v compareX s

/-- CPX zp, opcode E4 (R109). -/
def execCpxZp (b : Byte) (s : State) : Out :=
  readMem (.zp b) 3 compareX s

/-- CPX abs, opcode EC (R109). -/
def execCpxAbs (w : Word) (s : State) : Out :=
  readMem (.abs w) 4 compareX s

/-- CPY #, opcode C0 (R110). -/
def execCpyImm (v : Byte) (s : State) : Out :=
  readImm v compareY s

/-- CPY zp, opcode C4 (R110). -/
def execCpyZp (b : Byte) (s : State) : Out :=
  readMem (.zp b) 3 compareY s

/-- CPY abs, opcode CC (R110). -/
def execCpyAbs (w : Word) (s : State) : Out :=
  readMem (.abs w) 4 compareY s

/-- INC zp, opcode E6 (R111). -/
def execIncZp (b : Byte) (s : State) : Out :=
  countMem (.zp b) 5 (· + 1) s

/-- INC zp,X, opcode F6 (R111). -/
def execIncZpx (b : Byte) (s : State) : Out :=
  countMem (.zpx b) 6 (· + 1) s

/-- INC abs, opcode EE (R111). -/
def execIncAbs (w : Word) (s : State) : Out :=
  countMem (.abs w) 6 (· + 1) s

/-- INC abs,X, opcode FE (R111). -/
def execIncAbx (w : Word) (s : State) : Out :=
  countMem (.abx w) 7 (· + 1) s

/-- DEC zp, opcode C6 (R112). -/
def execDecZp (b : Byte) (s : State) : Out :=
  countMem (.zp b) 5 (· - 1) s

/-- DEC zp,X, opcode D6 (R112). -/
def execDecZpx (b : Byte) (s : State) : Out :=
  countMem (.zpx b) 6 (· - 1) s

/-- DEC abs, opcode CE (R112). -/
def execDecAbs (w : Word) (s : State) : Out :=
  countMem (.abs w) 6 (· - 1) s

/-- DEC abs,X, opcode DE (R112). -/
def execDecAbx (w : Word) (s : State) : Out :=
  countMem (.abx w) 7 (· - 1) s

/-- INX, opcode E8 (R113). -/
def execInx (s : State) : Out :=
  implied (fun s => loadX (s.x + 1) s) s

/-- INY, opcode C8 (R114). -/
def execIny (s : State) : Out :=
  implied (fun s => loadY (s.y + 1) s) s

/-- DEX, opcode CA (R115). -/
def execDex (s : State) : Out :=
  implied (fun s => loadX (s.x - 1) s) s

/-- DEY, opcode 88 (R116). -/
def execDey (s : State) : Out :=
  implied (fun s => loadY (s.y - 1) s) s

end Sys2Proof.Machine
end

