-- ==== Sys2Proof/Machine/Control.lean ====
section
/-! DEFINITION. Control transfer (spec/45_control_transfer.md R122 to R137): these set PC themselves. -/

namespace Sys2Proof.Machine

/-- JMP: PC <- EA (R122, R123). -/
def jump (m : Address) (cycles : Nat) (s : State) : Out :=
  finish ((resolve m s).bind fun r s1 => .ok cycles (s1.setPc r.ea))

/-- JMP abs, opcode 4C (R122). -/
def execJmpAbs (w : Word) (s : State) : Out :=
  jump (.abs w) 3 s

/-- JMP (abs), opcode 6C (R123). -/
def execJmpInd (w : Word) (s : State) : Out :=
  jump (.ind w) 5 s

/-- JSR abs, opcode 20 (R124). -/
def execJsr (w : Word) (s : State) : Out :=
  finish <|
    (resolve (.abs w) s).bind fun r s1 =>
    (push16 (s1.pc + 2) s1).bind fun _ s2 =>
    .ok 6 (s2.setPc r.ea)

/-- RTS, opcode 60 (R125). -/
def execRts (s : State) : Out :=
  finish ((pull16 s).bind fun ret s1 => .ok 6 (s1.setPc (ret + 1)))

/-- BRK, opcode 00 (R127). -/
def execBrk (s : State) : Out :=
  finish ((enterInterrupt (s.pc + 2) true Config.irqVector s).bind fun _ s1 => .ok Config.interruptCycles s1)

/-- RTI, opcode 40 (R128). -/
def execRti (s : State) : Out :=
  finish ((returnFromInterrupt s).bind fun _ s1 => .ok 6 s1)

/-- BCC rel, opcode 90 (R130). -/
def execBcc (d : Int) (s : State) : Out :=
  branch (!s.flags.c) d s

/-- BCS rel, opcode B0 (R131). -/
def execBcs (d : Int) (s : State) : Out :=
  branch s.flags.c d s

/-- BEQ rel, opcode F0 (R132). -/
def execBeq (d : Int) (s : State) : Out :=
  branch s.flags.z d s

/-- BNE rel, opcode D0 (R133). -/
def execBne (d : Int) (s : State) : Out :=
  branch (!s.flags.z) d s

/-- BMI rel, opcode 30 (R134). -/
def execBmi (d : Int) (s : State) : Out :=
  branch s.flags.n d s

/-- BPL rel, opcode 10 (R135). -/
def execBpl (d : Int) (s : State) : Out :=
  branch (!s.flags.n) d s

/-- BVC rel, opcode 50 (R136). -/
def execBvc (d : Int) (s : State) : Out :=
  branch (!s.flags.v) d s

/-- BVS rel, opcode 70 (R137). -/
def execBvs (d : Int) (s : State) : Out :=
  branch s.flags.v d s

end Sys2Proof.Machine
end

