-- ==== Sys2Proof/Machine/FlagOps.lean ====
section
/-! DEFINITION. Flag instructions, NOP and the jam opcodes (spec/46_flags_misc.md R138 to R146). -/

namespace Sys2Proof.Machine

/-- JAM (R146): `halted` is set and nothing else changes; PC stays at the opcode, and there is no cycle count. -/
def halt (s : State) : Out := .next { s with halted := true }

/-- CLC, opcode 18 (R138). -/
def execClc (s : State) : Out :=
  implied (fun s => s.setFlags { s.flags with c := false }) s

/-- SEC, opcode 38 (R139). -/
def execSec (s : State) : Out :=
  implied (fun s => s.setFlags { s.flags with c := true }) s

/-- CLI, opcode 58 (R140). -/
def execCli (s : State) : Out :=
  implied (fun s => s.setFlags { s.flags with i := false }) s

/-- SEI, opcode 78 (R141). -/
def execSei (s : State) : Out :=
  implied (fun s => s.setFlags { s.flags with i := true }) s

/-- CLD, opcode D8 (R142). -/
def execCld (s : State) : Out :=
  implied (fun s => s.setFlags { s.flags with d := false }) s

/-- SED, opcode F8 (R143). -/
def execSed (s : State) : Out :=
  implied (fun s => s.setFlags { s.flags with d := true }) s

/-- CLV, opcode B8 (R144). -/
def execClv (s : State) : Out :=
  implied (fun s => s.setFlags { s.flags with v := false }) s

/-- NOP, opcode EA (R145). -/
def execNop (s : State) : Out :=
  implied (fun s => s) s

/-- JAM, opcode 02 (R146). -/
def execJam02 (s : State) : Out :=
  halt s

/-- JAM, opcode 12 (R146). -/
def execJam12 (s : State) : Out :=
  halt s

/-- JAM, opcode 22 (R146). -/
def execJam22 (s : State) : Out :=
  halt s

/-- JAM, opcode 32 (R146). -/
def execJam32 (s : State) : Out :=
  halt s

/-- JAM, opcode 42 (R146). -/
def execJam42 (s : State) : Out :=
  halt s

/-- JAM, opcode 52 (R146). -/
def execJam52 (s : State) : Out :=
  halt s

/-- JAM, opcode 62 (R146). -/
def execJam62 (s : State) : Out :=
  halt s

/-- JAM, opcode 72 (R146). -/
def execJam72 (s : State) : Out :=
  halt s

/-- JAM, opcode 92 (R146). -/
def execJam92 (s : State) : Out :=
  halt s

/-- JAM, opcode B2 (R146). -/
def execJamB2 (s : State) : Out :=
  halt s

/-- JAM, opcode D2 (R146). -/
def execJamD2 (s : State) : Out :=
  halt s

/-- JAM, opcode F2 (R146). -/
def execJamF2 (s : State) : Out :=
  halt s

end Sys2Proof.Machine
end

