-- ==== Sys2Proof/Machine/Shift.lean ====
section
/-! DEFINITION. Shifts and rotates (spec/44_shift_rotate.md R117 to R121). -/

namespace Sys2Proof.Machine

/-- ASL A, opcode 0A (R118). -/
def execAslAcc (s : State) : Out :=
  shiftAcc aslCore s

/-- ASL zp, opcode 06 (R118). -/
def execAslZp (b : Byte) (s : State) : Out :=
  shiftMem (.zp b) 5 aslCore s

/-- ASL zp,X, opcode 16 (R118). -/
def execAslZpx (b : Byte) (s : State) : Out :=
  shiftMem (.zpx b) 6 aslCore s

/-- ASL abs, opcode 0E (R118). -/
def execAslAbs (w : Word) (s : State) : Out :=
  shiftMem (.abs w) 6 aslCore s

/-- ASL abs,X, opcode 1E (R118). -/
def execAslAbx (w : Word) (s : State) : Out :=
  shiftMem (.abx w) 7 aslCore s

/-- LSR A, opcode 4A (R119). -/
def execLsrAcc (s : State) : Out :=
  shiftAcc lsrCore s

/-- LSR zp, opcode 46 (R119). -/
def execLsrZp (b : Byte) (s : State) : Out :=
  shiftMem (.zp b) 5 lsrCore s

/-- LSR zp,X, opcode 56 (R119). -/
def execLsrZpx (b : Byte) (s : State) : Out :=
  shiftMem (.zpx b) 6 lsrCore s

/-- LSR abs, opcode 4E (R119). -/
def execLsrAbs (w : Word) (s : State) : Out :=
  shiftMem (.abs w) 6 lsrCore s

/-- LSR abs,X, opcode 5E (R119). -/
def execLsrAbx (w : Word) (s : State) : Out :=
  shiftMem (.abx w) 7 lsrCore s

/-- ROL A, opcode 2A (R120). -/
def execRolAcc (s : State) : Out :=
  shiftAcc rolCore s

/-- ROL zp, opcode 26 (R120). -/
def execRolZp (b : Byte) (s : State) : Out :=
  shiftMem (.zp b) 5 rolCore s

/-- ROL zp,X, opcode 36 (R120). -/
def execRolZpx (b : Byte) (s : State) : Out :=
  shiftMem (.zpx b) 6 rolCore s

/-- ROL abs, opcode 2E (R120). -/
def execRolAbs (w : Word) (s : State) : Out :=
  shiftMem (.abs w) 6 rolCore s

/-- ROL abs,X, opcode 3E (R120). -/
def execRolAbx (w : Word) (s : State) : Out :=
  shiftMem (.abx w) 7 rolCore s

/-- ROR A, opcode 6A (R121). -/
def execRorAcc (s : State) : Out :=
  shiftAcc rorCore s

/-- ROR zp, opcode 66 (R121). -/
def execRorZp (b : Byte) (s : State) : Out :=
  shiftMem (.zp b) 5 rorCore s

/-- ROR zp,X, opcode 76 (R121). -/
def execRorZpx (b : Byte) (s : State) : Out :=
  shiftMem (.zpx b) 6 rorCore s

/-- ROR abs, opcode 6E (R121). -/
def execRorAbs (w : Word) (s : State) : Out :=
  shiftMem (.abs w) 6 rorCore s

/-- ROR abs,X, opcode 7E (R121). -/
def execRorAbx (w : Word) (s : State) : Out :=
  shiftMem (.abx w) 7 rorCore s

end Sys2Proof.Machine
end

