-- ==== Sys2Proof/Machine/Stack.lean ====
section
/-! DEFINITION. The stack instructions (spec/42_stack.md R95 to R98). -/

namespace Sys2Proof.Machine

/-- A one-byte push instruction: 3 cycles (R95, R96). -/
def pushByte (v : Byte) (s : State) : Out :=
  finish ((push v s).bind fun _ s1 => .ok 3 (s1.advance 1))

/-- A one-byte pull instruction: 4 cycles (R97, R98). -/
def pullByte (f : Byte → State → State) (s : State) : Out :=
  finish ((pull s).bind fun m s1 => .ok 4 ((f m s1).advance 1))

/-- PHA, opcode 48 (R95). -/
def execPha (s : State) : Out :=
  pushByte s.a s

/-- PHP, opcode 08 (R96). -/
def execPhp (s : State) : Out :=
  pushByte (s.flags.image true) s

/-- PLA, opcode 68 (R97). -/
def execPla (s : State) : Out :=
  pullByte loadA s

/-- PLP, opcode 28 (R98). -/
def execPlp (s : State) : Out :=
  pullByte (fun m s => s.setFlags (Flags.ofByte m)) s

end Sys2Proof.Machine
end

