-- ==== Sys2Proof/Machine/Fetch.lean ====
section
/-! DEFINITION. Fetching an instruction through the router (spec/30_encoding.md R55, 60_exceptions.md R151),
and placing one where it will be fetched. -/

namespace Sys2Proof.Machine

/-- `n` bytes read one after another from `addr` on, modulo 2^16 (R15, R48). -/
def fetchBytes : Nat → Word → State → Res (List Byte)
  | 0, _, s => .ok [] s
  | n + 1, addr, s =>
    (memRead addr s).bind fun b s1 =>
    (fetchBytes n (addr + 1) s1).bind fun rest s2 =>
    .ok (b :: rest) s2

/-- The bytes of the instruction at PC: the opcode byte, then as many operand bytes as it alone says (R55). -/
def fetchInstruction (s : State) : Res (List Byte) :=
  (memRead s.pc s).bind fun op s1 =>
  (fetchBytes (operandCount op) (s.pc + 1) s1).bind fun operands s2 =>
  .ok (op :: operands) s2

/-! ### Placing an instruction -/

/-- Put byte `b` where a fetch from `addr` reads it: RAM, I/O storage, or the image of the cartridge window that
answers. Elsewhere nothing is placed. -/
def placeByte (addr : Word) (b : Byte) (s : State) : State :=
  match route addr with
  | .ram i => s.setMem (s.mem.write i b)
  | .io i => s.setMem (s.mem.write i b)
  | .cart =>
    match s.cart with
    | .windows ws => { s with cart := .windows (placeInWindows addr b ws) }
    | .free _ => s
  | .vreg _ | .pad _ | .unmapped => s

/-- Put bytes at `addr` and the addresses after it. -/
def placeBytes : List Byte → Word → State → State
  | [], _, s => s
  | b :: rest, addr, s => placeBytes rest (addr + 1) (placeByte addr b s)

/-- Whether plain storage holds these bytes from `addr` on. -/
def holdsBytes : List Byte → Word → State → Bool
  | [], _, _ => true
  | b :: rest, addr, s => s.peek addr == some b && holdsBytes rest (addr + 1) s

/-- The state with these bytes where the next fetch reads them: at PC where plain storage can hold them, else in
RAM at 0x0000 with PC moved there. -/
def withFetchBytes (bs : List Byte) (s : State) : State :=
  let here := placeBytes bs s.pc s
  if holdsBytes bs s.pc here then here else placeBytes bs 0x0000 (s.setPc 0x0000)

/-- The next host input, with no reset request. -/
def quietHost (s : State) : State :=
  { s with
    host := { s.host with reset := false }
    hostScript := match s.hostScript with
      | [] => []
      | h :: rest => { h with reset := false } :: rest }

/-- The state in which nothing comes before the next fetch: no reset, no NMI, no stop. -/
def readyToFetch (s : State) : State :=
  quietHost { s with resetPending := false, nmiPending := false, halted := false, fault := none }

end Sys2Proof.Machine
end

