-- ==== Sys2Proof/Machine/Orchestrator.lean ====
section
/-! DEFINITION. The CPU step as the interrupt-dispatch state machine, and the orchestrator around it
(spec/60_exceptions.md R147 to R151, R178). -/

namespace Sys2Proof.Machine

/-- Fetch, decode and execute (R151). -/
def execStep (s : State) : Out :=
  match fetchInstruction s with
  | .unmapped addr s1 => raiseUnmapped addr s1
  | .ok bytes s1 =>
    match decode bytes with
    | .ok (i, _) => exec i s1
    | .error (.unimplementedOpcode op) => raiseUnimplemented op s.pc s1
    | .error .truncated => raiseUnimplemented (bytes.headD 0) s.pc s1

/-- The CPU step in RUN: reset before NMI before the next instruction (R147, R148, R154). -/
def cpuStep (s : State) : Out :=
  if s.resetPending then resetSeq s
  else if s.nmiPending then nmiSeq s
  else execStep s

/-- The host's inputs before a step; an asserted HostReset sets the reset latch (R178, R180). -/
def acceptHost (s : State) : State :=
  let s1 := match s.hostScript with
    | [] => s
    | h :: rest => { s with host := h, hostScript := rest }
  { s1 with resetPending := s1.resetPending || s1.host.reset }

/-- `n` video ticks, then the NMI latch if any of them signalled (R178, D39). -/
def runVideo (n : Nat) (s : State) : State :=
  let t := s.video.ticks n
  { s with video := t.1, nmiPending := s.nmiPending || t.2 }

/-- After the CPU step: three ticks per cycle; none after a halt or a fault (R153, R178). -/
def afterCpuStep (o : Out) : Out :=
  match o with
  | .next s => if s.halted then .next s else .next (runVideo (Config.clockRatio * s.cycles) s)
  | .fault r => .fault r
  | .refused r => .refused r

/-- One turn of the orchestrator's loop; none from HALTED or FAULTED (R147, R148, R178). -/
def orchestrate (s : State) : Out :=
  match s.fault with
  | some r => .fault (.alreadyFaulted r)
  | none => if s.halted then .fault .alreadyHalted else afterCpuStep (cpuStep (acceptHost s))

end Sys2Proof.Machine
end

