-- ==== Sys2Proof/Machine/Step.lean ====
section
/-! DEFINITION. The step of the machine: one turn of the orchestrator's loop (spec/60_exceptions.md R178),
and placing an instruction where it is the next to be fetched. -/

namespace Sys2Proof.Machine

/-- One step: one CPU step and the video ticks it owes (R148, R178). -/
def step (s : State) : Host.Outcome State Fault Refusal := orchestrate s

/-- The state with the instruction whose `nbits` bits are `w` placed where `step` fetches its next instruction, and
nothing to come before that fetch. Log 10. -/
def State.withFetchWord (s : State) (nbits w : Nat) : State :=
  withFetchBytes (wordBytes nbits w) (readyToFetch s)

end Sys2Proof.Machine
end

