-- ==== Sys2Proof/Safety.lean ====
section
/-! DEFINITION. What claims call a running machine, a safe run, one byte of a cartridge, and the invariant of the
state. -/

namespace Sys2Proof.Machine

/-- The control state RUN (spec/60_exceptions.md R147). -/
abbrev State.running (s : State) : Prop := s.halted = false ∧ s.fault = none

/-- At an instruction boundary with nothing before the next fetch: RUN, no latch set, no reset asserted. -/
abbrev State.fetching (s : State) : Prop :=
  s.running ∧ s.resetPending = false ∧ s.nmiPending = false ∧ (acceptHost s).host.reset = false

/-- `k` steps are taken, none of them a stop. -/
def safeRun (k : Nat) (s : State) : Prop := ∃ t, core.run k s = .next t

/-- A key of the storage the router holds itself: RAM or I/O storage (R22, R23). -/
abbrev storageKey (k : Nat) : Prop := k < 0x800 ∨ (0x4000 ≤ k ∧ k ≤ 0x4015)

/-- Whether two addresses reach one byte of a cartridge's windows. -/
def sameWindowByte (a b : Word) : List CartWindow → Bool
  | [] => false
  | w :: ws =>
    match w.covers a, w.covers b with
    | true, true => w.offset a == w.offset b
    | false, false => sameWindowByte a b ws
    | true, false | false, true => false

/-- Whether two addresses may reach one byte of a cartridge: of one that is no list of windows, any two may. -/
def Cart.sameByte (c : Cart) (a b : Word) : Bool :=
  match c with
  | .windows ws => sameWindowByte a b ws
  | .free _ => true

/-- The invariant: every storage is canonical, and RAM, I/O storage and OAM hold only their own keys; the video counter,
the cursors and the cycle count lie in their ranges (R11, R24, R28). -/
structure State.Inv (s : State) : Prop where
  memory_canonical : s.mem.wf
  memory_keys : ∀ c ∈ s.mem, storageKey c.1
  cart_canonical : s.cart.wf
  oam_canonical : s.video.oam.wf
  oam_keys : ∀ c ∈ s.video.oam, c.1 < 256
  scanline_range : s.video.scanline < Config.scanlines
  dot_range : s.video.dot < Config.dots
  cursor1_range : s.pad1.cursor ≤ 8
  cursor2_range : s.pad2.cursor ≤ 8
  cycles_range : s.cycles ≤ 7

end Sys2Proof.Machine
end

