-- ==== Sys2Proof/Certificates/Slice0/Obligations.lean ====
section
/-! DEFINITION. What is to be proved of the model. The terms the statements are made of come first: they are
the spec's own formulas, written apart from the meanings they are about. -/

namespace Sys2Proof.Claims

open Sys2Proof.Machine

/-- The two zero-page bytes of a pointer at `p`, the second within the page (spec/40_addressing_modes.md R74, R75). -/
def pointerAt (p : Byte) (s : State) : Word :=
  join (s.mem.read (p + 1).toNat) (s.mem.read p.toNat)

/-- The effective address of a data mode (R68 to R75); none for the jump and branch modes. -/
def dataAddress (m : Address) (s : State) : Option Word :=
  match m with
  | .zp b => some (b.setWidth 16)
  | .zpx b => some ((b + s.x).setWidth 16)
  | .zpy b => some ((b + s.y).setWidth 16)
  | .abs w => some w
  | .abx w => some (w + s.x.setWidth 16)
  | .aby w => some (w + s.y.setWidth 16)
  | .izx b => some (pointerAt (b + s.x) s)
  | .izy b => some (pointerAt b s + s.y.setWidth 16)
  | .ind _ | .rel _ => none

/-- Whether indexing leaves the page of the unindexed base (R72, R73, R75, R78). -/
def pageCrossed (m : Address) (s : State) : Bool :=
  match m with
  | .abx w => hi (w + s.x.setWidth 16) != hi w
  | .aby w => hi (w + s.y.setWidth 16) != hi w
  | .izy b => hi (pointerAt b s + s.y.setWidth 16) != hi (pointerAt b s)
  | .zp _ | .zpx _ | .zpy _ | .abs _ | .izx _ | .ind _ | .rel _ => false

/-- The operand `M` of a read-class instruction (R79): its value, the state after reading it, and the page-cross
cycle (R78). For an immediate the byte itself; for a data mode the byte the router answers at EA. -/
def OperandReads (o : Operand) (s : State) (m : Byte) (extra : Nat) (s1 : State) : Prop :=
  match o with
  | .imm v => m = v ∧ s1 = s ∧ extra = 0
  | .mem md =>
    (∃ ea, dataAddress md s = some ea ∧ memRead ea s = .ok m s1) ∧ extra = (if pageCrossed md s then 1 else 0)
  | .imp | .acc => False

/-- PC past an instruction (R15). -/
def nextPc (i : Instr) (s : State) : Word := s.pc + BitVec.ofNat 16 i.length

/-- The flags with Z and N set from a result (R10). -/
def zn (f : Flags) (r : Byte) : Flags := { f with z := decide (r = 0), n := r.getLsbD 7 }

/-- The RAM index of the stack byte S names (R45). -/
def stackIndex (sp : Byte) : Nat := 0x100 + sp.toNat

/-- AddCore's sum, 0 to 511 (R100). -/
def sum9 (a m : Byte) (c : Bool) : Nat := a.toNat + m.toNat + c.toNat

/-- The state after AddCore wrote A and the flags (R100, R101). -/
def afterAdd (s : State) (a m : Byte) (c : Bool) : State :=
  let r := BitVec.ofNat 8 (sum9 a m c % 256)
  { s with
    a := r
    flags := { s.flags with
      c := decide (sum9 a m c > 0xFF)
      v := decide (a.getLsbD 7 = m.getLsbD 7 ∧ r.getLsbD 7 ≠ a.getLsbD 7)
      z := decide (r = 0)
      n := r.getLsbD 7 } }

/-- The result of a shift or rotate, by its arithmetic (R118 to R121). -/
def shiftResult (k : Mnemonic) (m : Byte) (c : Bool) : Byte :=
  match k with
  | .asl => BitVec.ofNat 8 (2 * m.toNat)
  | .lsr => BitVec.ofNat 8 (m.toNat / 2)
  | .rol => BitVec.ofNat 8 (2 * m.toNat + c.toNat)
  | .ror => BitVec.ofNat 8 (128 * c.toNat + m.toNat / 2)
  | _ => m

/-- The bit a shift or rotate puts in C (R118 to R121). -/
def shiftedOut (k : Mnemonic) (m : Byte) : Bool :=
  match k with
  | .asl | .rol => m.getLsbD 7
  | _ => m.getLsbD 0

/-- The flags after a shift or rotate (R117). -/
def afterShift (k : Mnemonic) (m : Byte) (f : Flags) : Flags :=
  { zn f (shiftResult k m f.c) with c := shiftedOut k m }

/-- The condition of a branch (R130 to R137). -/
def branchTaken (k : Mnemonic) (f : Flags) : Option Bool :=
  match k with
  | .bcc => some !f.c
  | .bcs => some f.c
  | .beq => some f.z
  | .bne => some !f.z
  | .bmi => some f.n
  | .bpl => some !f.n
  | .bvc => some !f.v
  | .bvs => some f.v
  | _ => none

/-- The 93 opcodes without a table entry, as R60 lists them. -/
def unlistedOpcodes : List Nat :=
  [0x03, 0x04, 0x07, 0x0B, 0x0C, 0x0F, 0x13, 0x14, 0x17, 0x1A, 0x1B, 0x1C, 0x1F, 0x23, 0x27, 0x2B, 0x2F, 0x33] ++
  [0x34, 0x37, 0x3A, 0x3B, 0x3C, 0x3F, 0x43, 0x44, 0x47, 0x4B, 0x4F, 0x53, 0x54, 0x57, 0x5A, 0x5B, 0x5C, 0x5F] ++
  [0x63, 0x64, 0x67, 0x6B, 0x6F, 0x73, 0x74, 0x77, 0x7A, 0x7B, 0x7C, 0x7F, 0x80, 0x82, 0x83, 0x87, 0x89, 0x8B] ++
  [0x8F, 0x93, 0x97, 0x9B, 0x9C, 0x9E, 0x9F, 0xA3, 0xA7, 0xAB, 0xAF, 0xB3, 0xB7, 0xBB, 0xBF, 0xC2, 0xC3, 0xC7] ++
  [0xCB, 0xCF, 0xD3, 0xD4, 0xD7, 0xDA, 0xDB, 0xDC, 0xDF, 0xE2, 0xE3, 0xE7, 0xEB, 0xEF, 0xF3, 0xF4, 0xF7, 0xFA] ++
  [0xFB, 0xFC, 0xFF]

/-- The mnemonics that store through their operand: stores and memory read-modify-writes (R79). -/
def storesThroughOperand (i : Instr) : Bool :=
  match i.row.mnemonic, i.row.operand with
  | .sta, .mem _ | .stx, .mem _ | .sty, .mem _ => true
  | .inc, .mem _ | .dec, .mem _ => true
  | .asl, .mem _ | .lsr, .mem _ | .rol, .mem _ | .ror, .mem _ => true
  | _, _ => false

/-- The instructions that read memory through their operand without storing there: the read class in its memory modes, and
JMP indirect (R76, R79). -/
def readsThroughOperand (i : Instr) : Bool :=
  match i.row.mnemonic, i.row.operand with
  | .jmp, .mem (.ind _) => true
  | .jmp, _ | .jsr, _ => false
  | _, .mem (.rel _) => false
  | _, .mem _ => true
  | _, _ => false

/-- How many bytes an instruction pushes (R95, R96, R124, R127). -/
def pushedBytes (k : Mnemonic) : Nat :=
  match k with
  | .pha | .php => 1
  | .jsr => 2
  | .brk => 3
  | _ => 0

/-- The device state a data access may touch is as it was. -/
def DevicesKept (s t : State) : Prop :=
  t.video = s.video ∧ t.pad1 = s.pad1 ∧ t.pad2 = s.pad2 ∧ t.strobe = s.strobe ∧ t.io4017w = s.io4017w ∧
    t.draws = s.draws ∧ t.vramLog = s.vramLog

/-- What no instruction ever writes: the latches, the fault record and the host's inputs (R19, R21, R180). -/
def OutsideKept (s t : State) : Prop :=
  t.resetPending = s.resetPending ∧ t.nmiPending = s.nmiPending ∧ t.fault = s.fault ∧
    t.host = s.host ∧ t.hostScript = s.hostScript

/-- The cartridge is as it was, if it is one of windows: a read of those has no side effect (log 5). Of any other
cartridge nothing is said: its reads do what it defines (R49). -/
def WindowsKept (s t : State) : Prop := ∀ ws, s.cart = .windows ws → t.cart = s.cart

/-- What a read leaves of the video unit: all but the vblank flag, the toggle and the address (R49). -/
def VideoReadOnly (v u : Video) : Prop :=
  u.oam = v.oam ∧ u.scanline = v.scanline ∧ u.dot = v.dot ∧ u.ctrl = v.ctrl ∧ u.mask = v.mask ∧
    u.oamaddr = v.oamaddr ∧ u.scrollX = v.scrollX ∧ u.scrollY = v.scrollY ∧ u.vaddrHi = v.vaddrHi ∧
    u.openBus = v.openBus

/-- The router cannot serve a read of `a`: it lies in the gap, or the cartridge does not answer (R35, R41). -/
def ReadUnserved (a : Word) (s : State) : Prop :=
  0x4018 ≤ a.toNat ∧ a.toNat ≤ 0x401F ∨ 0x4020 ≤ a.toNat ∧ s.cart.read a = none

/-- The router cannot serve a write of `v` to `a` (R36, R41, R42). -/
def WriteUnserved (a : Word) (v : Byte) (s : State) : Prop :=
  0x4018 ≤ a.toNat ∧ a.toNat ≤ 0x401F ∨ 0x4020 ≤ a.toNat ∧ s.cart.write a v = none

/-- The video counter as one number, 0 to 89341 (R159). -/
def position (v : Video) : Nat := v.scanline * 341 + v.dot

/-- The video counter lies in a frame (R24). -/
def InFrame (v : Video) : Prop := v.scanline < 262 ∧ v.dot < 341

/-- `n` reads of one address, one after another: the bytes read, or none if one of them stops. -/
def readsOf : Nat → Word → State → Option (List Byte)
  | 0, _, _ => some []
  | n + 1, a, s =>
    match memRead a s with
    | .ok b s1 => (readsOf n a s1).map (b :: ·)
    | .unmapped _ _ => none

/-- What the `k`-th read of a controller port returns after a latch of `buttons` (R176, R177). -/
def kthButtonByte (buttons : Byte) (k : Nat) : Byte :=
  if k < 8 then (if buttons.getLsbD (7 - k) then 0x41 else 0x40) else 0x41

/-- A state with the decimal flag set to `b`. -/
def withDecimal (b : Bool) (s : State) : State := { s with flags := { s.flags with d := b } }

/-- The next state of an outcome, changed by `f`; none for a stop. -/
def mapNext (f : State → State) (o : Out) : Option State :=
  match o with
  | .next t => some (f t)
  | .fault _ | .refused _ => none

end Sys2Proof.Claims

open Sys2Proof Sys2Proof.Machine Sys2Proof.Claims

/-! ### Encoding -/

/-- Decoding an instruction's encoding gives it back and leaves the bytes after it (R54, R56, R57, R58). -/
def Obligations.DecodeOfEncode : Prop :=
  ∀ (i : Instr) (rest : List Byte), i.wellFormed = true → decode (encode i ++ rest) = .ok (i, rest)

/-- Every decoded instruction is well-formed, its encoding is the bytes it was decoded from (each word has one meaning and no
operand bit is dropped), and its length follows from the opcode byte alone (R54, R55, R56, R57, R62). -/
def Obligations.EncodeOfDecode : Prop :=
  ∀ (bs rest : List Byte) (i : Instr),
    decode bs = .ok (i, rest) →
    i.wellFormed = true ∧ encode i ++ rest = bs ∧ i.length = 1 + operandCount (bs.headD 0)

/-- Words written out from the spec's encodings, one of each format and family, decode to what they stand for
(R63, 95_test_vectors.md). -/
def Obligations.SpecExampleWordsDecode : Prop :=
  decode [0xE8] = .ok (.inx, []) ∧ decode [0x0A] = .ok (.aslAcc, []) ∧ decode [0xA9, 0x10] = .ok (.ldaImm 0x10, []) ∧
  decode [0xB6, 0x10] = .ok (.ldxZpy 0x10, []) ∧ decode [0xBD, 0x34, 0x12] = .ok (.ldaAbx 0x1234, []) ∧
  decode [0x6C, 0x34, 0x12] = .ok (.jmpInd 0x1234, []) ∧ decode [0xD0, 0xFE] = .ok (.bne (-2), []) ∧
  decode [0x48] = .ok (.pha, []) ∧ decode [0x02] = .ok (.jam02, [])

/-! ### The step -/

/-- A step at an instruction boundary with nothing before the fetch runs the decoded instruction: the bytes at PC,
read one after another through the router, decode to `i`; the step is `exec i` at the state after those reads, and then
three video ticks per cycle, none after a halt (R151, R178). -/
def Obligations.StepRunsDecodedInstruction : Prop :=
  ∀ (s s1 : State) (bs : List Byte) (i : Instr),
    s.fetching → fetchBytes bs.length s.pc (acceptHost s) = .ok bs s1 → decode bs = .ok (i, []) →
    step s = match exec i s1 with
      | .next t => .next (if t.halted then t else runVideo (3 * t.cycles) t)
      | .fault f => .fault f
      | .refused r => .refused r

/-- Fetching one of the 93 opcodes ends the step with UnimplementedOpcode(op, pc); no operand byte is read, and nothing
is changed but by the opcode fetch itself (R60). -/
def Obligations.UnlistedOpcodeFaults : Prop :=
  ∀ (s s1 : State) (op : Byte),
    s.fetching → op.toNat ∈ unlistedOpcodes → memRead s.pc (acceptHost s) = .ok op s1 →
    step s = .fault (.unimplementedOpcode op s.pc { s1 with fault := some (.unimplementedOpcode op s.pc) })

/-- The control states: from HALTED and from FAULTED no step is taken; in RUN the CPU step is the reset sequence, the NMI
sequence or the next instruction, in that order of priority (R147, R148, R154). The outcomes `alreadyHalted` and
`alreadyFaulted` are the model's own names for the step the spec does not take (log 9). -/
def Obligations.ControlStatesAndPriority : Prop :=
  ∀ s : State,
    (s.fault = none → s.halted = true → step s = .fault .alreadyHalted) ∧
    (∀ r, s.fault = some r → step s = .fault (.alreadyFaulted r)) ∧
    (s.running → step s = afterCpuStep (cpuStep (acceptHost s))) ∧
    (s.resetPending = true → cpuStep s = resetSeq s) ∧
    (s.resetPending = false → s.nmiPending = true → cpuStep s = nmiSeq s) ∧
    (s.resetPending = false → s.nmiPending = false → cpuStep s = execStep s)

/-- The reset sequence (R149): the latch cleared, S down by 3, PC from 0xFFFC little-endian, I set, 7 cycles, and nothing
else changed but by the cartridge's own reads: no byte written, A, X, Y, the other flags and `nmi_pending` kept. A vector
byte the cartridge does not answer raises UnmappedAddress; that the latch and S have changed by then and PC and I have not is
the model's reading of the order of effects (R10, R149, R153; log 9). -/
def Obligations.ResetSequence : Prop :=
  ∀ (s : State) (l h : Byte) (c d : Cart),
    let u : State := { s with resetPending := false, sp := s.sp - 3 }
    (s.cart.read 0xFFFC = some (l, c) → c.read 0xFFFD = some (h, d) →
      resetSeq s = .next { u with pc := join h l, flags := { s.flags with i := true }, cycles := 7, cart := d }) ∧
    (s.cart.read 0xFFFC = none →
      resetSeq s = .fault (.unmappedAddress 0xFFFC { u with fault := some (.unmappedAddress 0xFFFC) })) ∧
    (s.cart.read 0xFFFC = some (l, c) → c.read 0xFFFD = none →
      resetSeq s = .fault (.unmappedAddress 0xFFFD { u with fault := some (.unmappedAddress 0xFFFD), cart := c }))

/-- The NMI sequence (R150), whatever I is: the latch cleared, PCH, PCL and P with bit 4 clear pushed, I set, PC from
0xFFFA, 7 cycles, and nothing else changed but by the cartridge's own reads (R49; the form of the cartridge is log 5's). -/
def Obligations.NmiSequence : Prop :=
  ∀ (s : State) (l h : Byte) (c d : Cart),
    s.cart.read 0xFFFA = some (l, c) → c.read 0xFFFB = some (h, d) →
    nmiSeq s = .next { s with
      nmiPending := false
      mem := ((s.mem.write (stackIndex s.sp) (hi s.pc)).write (stackIndex (s.sp - 1)) (lo s.pc)).write
        (stackIndex (s.sp - 2)) (s.flags.image false)
      sp := s.sp - 3
      flags := { s.flags with i := true }
      pc := join h l
      cycles := 7
      cart := d }

/-- A warm reset: when the host asserts reset before a step, that step is the reset sequence and changes CPU state only:
S, PC and I; everything else but the video counter's ticks and what the cartridge's own reads do to it (R49, log 5) keeps its
value, a pending NMI among it. When nothing is asserted after that, the NMI is taken at the step after (R154, R187). -/
def Obligations.HostResetIsTakenAtTheNextStep : Prop :=
  ∀ (s : State) (l h : Byte) (c d : Cart),
    s.running → (acceptHost s).host.reset = true → s.cart.read 0xFFFC = some (l, c) → c.read 0xFFFD = some (h, d) →
    let t : State := runVideo 21 { acceptHost s with
      resetPending := false, sp := s.sp - 3, pc := join h l, flags := { s.flags with i := true }, cycles := 7, cart := d }
    step s = .next t ∧
    (s.nmiPending = true → (acceptHost t).host.reset = false → step t = afterCpuStep (nmiSeq (acceptHost t)))

/-- After a CPU step that returned, the video unit gets three ticks per cycle of that step, and the NMI latch is set if
any of them signalled; after a halt or a fault it gets none, and a fault's record and state are the CPU step's (R153, R178). -/
def Obligations.OrchestratorTicksThreePerCycle : Prop :=
  ∀ s : State, s.running →
    (∀ t, cpuStep (acceptHost s) = .next t →
      (t.halted = false → step s = .next { t with
        video := (t.video.ticks (3 * t.cycles)).1
        nmiPending := t.nmiPending || (t.video.ticks (3 * t.cycles)).2 }) ∧
      (t.halted = true → step s = .next t)) ∧
    (∀ f, cpuStep (acceptHost s) = .fault f → step s = .fault f)

/-- Power-on: the values the spec gives every piece of state (R31, R185). The values of A, X, Y, S, PC, the flags, RAM and
OAM are the model's choice and are not stated here (log 1, log 2). -/
def Obligations.PowerOnState : Prop :=
  let s := State.reset
  s.resetPending = true ∧ s.nmiPending = false ∧ s.halted = false ∧ s.fault = none ∧
  (∀ k, 0x4000 ≤ k → k ≤ 0x4015 → s.mem.read k = 0) ∧ s.io4017w = 0 ∧
  s.video.scanline = 0 ∧ s.video.dot = 0 ∧ s.video.ctrl = 0 ∧ s.video.mask = 0 ∧ s.video.vblank = false ∧
  s.video.oamaddr = 0 ∧ s.video.scrollX = 0 ∧ s.video.scrollY = 0 ∧ s.video.vaddr = 0 ∧ s.video.vaddrHi = 0 ∧
  s.video.w = false ∧ s.video.openBus = 0 ∧
  s.pad1 = { latch := 0, cursor := 0 } ∧ s.pad2 = { latch := 0, cursor := 0 } ∧ s.strobe = false

/-- The first step after power-on, for every value of the open parameters PowerOnA, X, Y, S, PowerOnFlags, PowerOnRam,
PowerOnOam and every cartridge that answers the reset vector: PC is the vector, S is PowerOnS minus 3, I is 1, the video
unit is at scanline 0, dot 21, and everything else is as it was but what the cartridge's own reads do to it (R49, R186; the
form of the cartridge is log 5's). -/
def Obligations.FirstStepAfterPowerOn : Prop :=
  ∀ (a x y sp : Byte) (pc : Word) (f : Flags) (ram oam : Memory) (cart c d : Cart)
    (l h : Byte),
    cart.read 0xFFFC = some (l, c) → c.read 0xFFFD = some (h, d) →
    let p : State := { State.reset with
      a := a, x := x, y := y, sp := sp, pc := pc, flags := f, mem := ram, cart := cart,
      video := { State.reset.video with oam := oam } }
    step p = .next { p with
      resetPending := false, sp := sp - 3, pc := join h l, flags := { f with i := true }, cycles := 7, cart := d,
      video := { p.video with dot := 21 } }

/-! ### Faults -/

/-- BRK, and the NMI sequence, with a vector byte the cartridge does not answer: UnmappedAddress of that byte's address, and
the three pushes, S and I remain while PC is as it was (R127, R150, R153). That I is set and PC kept at the fault is the
model's reading of the order of effects (log 9). -/
def Obligations.FaultKeepsEarlierEffects : Prop :=
  ∀ (s : State) (l : Byte) (c : Cart),
    let pushed (ret : Word) (b : Bool) : State := { s with
      mem := ((s.mem.write (stackIndex s.sp) (hi ret)).write (stackIndex (s.sp - 1)) (lo ret)).write
        (stackIndex (s.sp - 2)) (s.flags.image b)
      sp := s.sp - 3
      flags := { s.flags with i := true } }
    (s.cart.read 0xFFFE = none →
      exec .brk s = .fault (.unmappedAddress 0xFFFE
        { pushed (s.pc + 2) true with fault := some (.unmappedAddress 0xFFFE) })) ∧
    (s.cart.read 0xFFFE = some (l, c) → c.read 0xFFFF = none →
      exec .brk s = .fault (.unmappedAddress 0xFFFF
        { pushed (s.pc + 2) true with fault := some (.unmappedAddress 0xFFFF), cart := c })) ∧
    (s.cart.read 0xFFFA = none →
      nmiSeq s = .fault (.unmappedAddress 0xFFFA
        { pushed s.pc false with nmiPending := false, fault := some (.unmappedAddress 0xFFFA) })) ∧
    (s.cart.read 0xFFFA = some (l, c) → c.read 0xFFFB = none →
      nmiSeq s = .fault (.unmappedAddress 0xFFFB
        { pushed s.pc false with nmiPending := false, fault := some (.unmappedAddress 0xFFFB), cart := c }))

/-- An instruction stops only at an access the router cannot serve, in the state it has reached by then; the record is
written, PC is still the instruction's address, and the instruction is never refused (R80, R153). -/
def Obligations.OnlyUnmappedAccessStopsAnInstruction : Prop :=
  ∀ (i : Instr) (s : State),
    (∃ t, exec i s = .next t) ∨
    (∃ a t, exec i s = .fault (.unmappedAddress a t) ∧ t.fault = some (.unmappedAddress a) ∧ t.pc = s.pc ∧
      (ReadUnserved a t ∨ ∃ v, WriteUnserved a v t))

/-- An operand access the router does not serve stops the instruction: a read of the read class or of a read-modify-write
changes nothing but the record, and so does the write of a store; the write of a read-modify-write leaves the read's effects
and, for a shift or rotate, the flags, by the model's reading of the order of effects (R79, R80, R111, R117, R153; log 9). -/
def Obligations.UnservedOperandStopsTheInstruction : Prop :=
  ∀ (i : Instr) (s s1 : State) (md : Address) (ea : Word) (m v : Byte),
    i.row.operand = .mem md → dataAddress md s = some ea → i.row.mnemonic ∉ [Mnemonic.jmp, .jsr] →
    (i.row.mnemonic ∉ [Mnemonic.sta, .stx, .sty] → ReadUnserved ea s →
      exec i s = .fault (.unmappedAddress ea { s with fault := some (.unmappedAddress ea) })) ∧
    ((i.row.mnemonic = .sta ∧ v = s.a ∨ i.row.mnemonic = .stx ∧ v = s.x ∨ i.row.mnemonic = .sty ∧ v = s.y) →
      WriteUnserved ea v s →
      exec i s = .fault (.unmappedAddress ea { s with fault := some (.unmappedAddress ea) })) ∧
    ((i.row.mnemonic = .inc ∧ v = BitVec.ofNat 8 ((m.toNat + 1) % 256) ∨
        i.row.mnemonic = .dec ∧ v = BitVec.ofNat 8 ((m.toNat + 255) % 256)) →
      memRead ea s = .ok m s1 → WriteUnserved ea v s1 →
      exec i s = .fault (.unmappedAddress ea { s1 with fault := some (.unmappedAddress ea) })) ∧
    (i.row.mnemonic ∈ [Mnemonic.asl, .lsr, .rol, .ror] → memRead ea s = .ok m s1 →
      WriteUnserved ea (shiftResult i.row.mnemonic m s.flags.c) s1 →
      exec i s = .fault (.unmappedAddress ea
        { s1 with flags := afterShift i.row.mnemonic m s.flags, fault := some (.unmappedAddress ea) }))

/-! ### The video timing unit -/

/-- One tick, from a position in the frame: advance, then examine (R158). -/
def Obligations.TickAdvancesThenExamines : Prop :=
  ∀ v : Video, InFrame v →
    position v.tick.1 = (position v + 1) % 89342 ∧ InFrame v.tick.1 ∧
    (v.tick.2 = true ↔ position v.tick.1 = 241 * 341 + 1 ∧ v.ctrl.getLsbD 7 = true) ∧
    v.tick.1.vblank =
      (if position v.tick.1 = 241 * 341 + 1 then true
       else if position v.tick.1 = 261 * 341 + 1 then false else v.vblank) ∧
    v.tick.1 = { v with
      scanline := v.tick.1.scanline, dot := v.tick.1.dot, vblank := v.tick.1.vblank }

/-- `n` ticks move the counter `n` places on, modulo the frame's 89342, and no tick is skipped (R159). -/
def Obligations.TicksAdvanceTheCounter : Prop :=
  ∀ (n : Nat) (v : Video), InFrame v →
    InFrame (v.ticks n).1 ∧ position (v.ticks n).1 = (position v + n) % 89342

/-- From the first dot of a frame with vblank clear, the vblank flag after `n` ticks of that frame is set exactly from tick
241 × 341 + 1 on until tick 261 × 341 + 1 clears it (R158, R198). -/
def Obligations.VblankWithinOneFrame : Prop :=
  ∀ (n : Nat) (v : Video), v.scanline = 0 → v.dot = 0 → v.vblank = false → n < 89342 →
    ((v.ticks n).1.vblank = true ↔ 82182 ≤ n ∧ n < 89002)

/-- The NMI condition is raised in a batch of `n` ticks exactly if one of them reaches scanline 241, dot 1 and ctrl bit 7 is
set (R160). -/
def Obligations.NmiRaisedOnlyAtTheInstant : Prop :=
  ∀ (n : Nat) (v : Video), InFrame v →
    ((v.ticks n).2 = true ↔
      v.ctrl.getLsbD 7 = true ∧ ∃ k, k < n ∧ (position v + k + 1) % 89342 = 241 * 341 + 1)

/-- CPU reads of the OAM data register and of the write-only registers, at every mirror: no side effect (R163, R165). -/
def Obligations.VideoRegisterReads : Prop :=
  ∀ (s : State) (a : Word), 0x2000 ≤ a.toNat → a.toNat ≤ 0x3FFF →
    (a.toNat % 8 = 4 → memRead a s = .ok (s.video.oam.read s.video.oamaddr.toNat) s) ∧
    (a.toNat % 8 ≠ 2 → a.toNat % 8 ≠ 4 → a.toNat % 8 ≠ 7 → memRead a s = .ok s.video.openBus s)

/-- CPU reads of the status and data registers and writes of the data register, at every mirror (R162, R164, R174). The free
values `Config.spriteStatusBits` and `Config.vramRead`, the count of draws and the log of outputs are the model's own form of
what the spec leaves outside (logs 3, 4 and 8). -/
def Obligations.StatusAndDataRegisters : Prop :=
  ∀ (s : State) (a : Word) (b : Byte), 0x2000 ≤ a.toNat → a.toNat ≤ 0x3FFF →
    let next := s.video.vaddr + (if s.video.ctrl.getLsbD 2 then 32 else 1)
    (a.toNat % 8 = 2 → memRead a s = .ok
      ((bitByte s.video.vblank <<< 7) ||| ((Config.spriteStatusBits s.draws).setWidth 8 <<< 5) |||
        (s.video.openBus &&& 0x1F))
      { s with video := { s.video with vblank := false, w := false }, draws := s.draws + 1 }) ∧
    (a.toNat % 8 = 7 → memRead a s = .ok (Config.vramRead s.draws)
      { s with video := { s.video with vaddr := next }, draws := s.draws + 1 }) ∧
    (a.toNat % 8 = 7 → memWrite a b s = .ok () { s with
      video := { s.video with openBus := b, vaddr := next }, vramLog := (s.video.vaddr, b) :: s.vramLog })

/-- CPU writes of the control, mask, status, OAM, scroll and address registers, at every mirror: open bus first, then the
register's action; the scroll and address registers share the two-write toggle (R168 to R173). -/
def Obligations.VideoRegisterWrites : Prop :=
  ∀ (s : State) (a : Word) (b : Byte), 0x2000 ≤ a.toNat → a.toNat ≤ 0x3FFF →
    let u : Video := { s.video with openBus := b }
    (a.toNat % 8 = 0 → memWrite a b s = .ok () { s with video := { u with ctrl := b } }) ∧
    (a.toNat % 8 = 1 → memWrite a b s = .ok () { s with video := { u with mask := b } }) ∧
    (a.toNat % 8 = 2 → memWrite a b s = .ok () { s with video := u }) ∧
    (a.toNat % 8 = 3 → memWrite a b s = .ok () { s with video := { u with oamaddr := b } }) ∧
    (a.toNat % 8 = 4 → memWrite a b s = .ok () { s with video := { u with
      oam := s.video.oam.write s.video.oamaddr.toNat b, oamaddr := s.video.oamaddr + 1 } }) ∧
    (a.toNat % 8 = 5 → s.video.w = false →
      memWrite a b s = .ok () { s with video := { u with scrollX := b, w := true } }) ∧
    (a.toNat % 8 = 5 → s.video.w = true →
      memWrite a b s = .ok () { s with video := { u with scrollY := b, w := false } }) ∧
    (a.toNat % 8 = 6 → s.video.w = false →
      memWrite a b s = .ok () { s with video := { u with vaddrHi := BitVec.ofNat 6 (b.toNat % 64), w := true } }) ∧
    (a.toNat % 8 = 6 → s.video.w = true →
      memWrite a b s = .ok () { s with video := { u with
        vaddr := BitVec.ofNat 14 (s.video.vaddrHi.toNat * 256 + b.toNat), w := false } })

/-! ### The router -/

/-- The routing function, by the region table's ranges, and that RAM and I/O storage share no byte (R34). -/
def Obligations.RouterRegions : Prop :=
  (∀ a : Word,
    (a.toNat ≤ 0x1FFF → route a = .ram (a &&& 0x07FF).toNat) ∧
    (0x2000 ≤ a.toNat → a.toNat ≤ 0x3FFF → route a = .vreg (VReg.ofIndex (a &&& 0x0007).toNat)) ∧
    (0x4000 ≤ a.toNat → a.toNat ≤ 0x4015 → route a = .io a.toNat) ∧
    (a.toNat = 0x4016 → route a = .pad .one) ∧ (a.toNat = 0x4017 → route a = .pad .two) ∧
    (0x4018 ≤ a.toNat → a.toNat ≤ 0x401F → route a = .unmapped) ∧ (0x4020 ≤ a.toNat → route a = .cart)) ∧
  ∀ (a b : Word) (j k : Nat), route a = .ram j → route b = .io k → j ≠ k

/-- Internal RAM and its mirrors: a read answers the byte stored and has no side effect; a write is seen at once at every
mirror, and no other RAM byte changes (R37). -/
def Obligations.RamIsMirrored : Prop :=
  ∀ (a b : Word) (v : Byte) (s : State), a.toNat ≤ 0x1FFF → b.toNat ≤ 0x1FFF →
    memRead b s = .ok (s.mem.read (b.toNat % 0x800)) s ∧
    ∃ t, memWrite a v s = .ok () t ∧
      memRead b t = .ok (if a.toNat % 0x800 = b.toNat % 0x800 then v else s.mem.read (b.toNat % 0x800)) t

/-- Audio and I/O registers are inert storage, 0x00 until written; a write to 0x4017 is stored apart and touches no
controller, and a read of 0x4017 is a controller-2 read (R39). -/
def Obligations.IoRegistersAreInertStorage : Prop :=
  ∀ (a : Word) (v : Byte) (s : State),
    (0x4000 ≤ a.toNat → a.toNat ≤ 0x4015 →
      memRead a s = .ok (s.mem.read a.toNat) s ∧ State.reset.mem.read a.toNat = 0 ∧
      ∃ t, memWrite a v s = .ok () t ∧ t = { s with mem := t.mem } ∧ memRead a t = .ok v t ∧
        ∀ k, k ≠ a.toNat → t.mem.read k = s.mem.read k) ∧
    memWrite 0x4017 v s = .ok () { s with io4017w := v } ∧
    memRead 0x4017 s = .ok (controllerRead .two s).1 (controllerRead .two s).2

/-- The addresses 0x4018 to 0x401F belong to no region: a read, a write or an opcode fetch there raises UnmappedAddress
(R41, R80). -/
def Obligations.GapIsUnmapped : Prop :=
  ∀ (a : Word) (v : Byte) (s : State), 0x4018 ≤ a.toNat → a.toNat ≤ 0x401F →
    memRead a s = .unmapped a s ∧ memWrite a v s = .unmapped a s ∧
    (s.fetching → s.pc = a →
      step s = .fault (.unmappedAddress a { acceptHost s with fault := some (.unmappedAddress a) }))

/-- The cartridge view: an access at 0x4020 to 0xFFFF is the cartridge's own answer, which may change the cartridge and nothing
else; an access it does not answer is unmapped (R42, R49). A cartridge of windows, the model's form of ROM and RAM (log 5): a
read changes nothing; a byte written where it is stored and can be read is read back; and a write leaves every other byte of
the cartridge as it was. -/
def Obligations.CartridgeViewIsForwarded : Prop :=
  ∀ (a b : Word) (v x : Byte) (s t : State) (ws : List CartWindow), 0x4020 ≤ a.toNat → 0x4020 ≤ b.toNat →
    memRead a s = (match s.cart.read a with
      | some (m, c) => .ok m { s with cart := c }
      | none => .unmapped a s) ∧
    memWrite a v s = (match s.cart.write a v with
      | some c => .ok () { s with cart := c }
      | none => .unmapped a s) ∧
    (s.cart = .windows ws → memRead a s = .ok x t → t = s) ∧
    (s.cart = .windows ws → memWrite a v s = .ok () t →
      (∀ w, ws.find? (·.covers a) = some w → w.readable = true → w.onWrite = .stored → memRead a t = .ok v t) ∧
      (s.cart.sameByte a b = false → (memRead b t = .ok x t ↔ memRead b s = .ok x s)))

/-- The reference cartridge with a 16 KiB or a 32 KiB image (R43). -/
def Obligations.ReferenceCartridge : Prop :=
  ∀ (prg : Memory) (size : Nat) (a : Word) (v : Byte) (s : State), size = 16384 ∨ size = 32768 →
    s.cart = Cart.reference prg size →
    (0x8000 ≤ a.toNat →
      memRead a s = .ok (prg.read ((a.toNat - 0x8000) % size)) s ∧ memWrite a v s = .ok () s) ∧
    (0x4020 ≤ a.toNat → a.toNat < 0x8000 → memRead a s = .unmapped a s ∧ memWrite a v s = .unmapped a s)

/-! ### The controllers -/

/-- The strobe write (R175): bit 0 set latches both controllers and holds the strobe; clearing it after it was set latches
again; clearing it when it is clear changes nothing. -/
def Obligations.StrobeWrite : Prop :=
  ∀ (v : Byte) (s : State),
    let latched : State := { s with
      pad1 := { latch := s.host.buttons1, cursor := 0 }, pad2 := { latch := s.host.buttons2, cursor := 0 } }
    (v.getLsbD 0 = true → memWrite 0x4016 v s = .ok () { latched with strobe := true }) ∧
    (v.getLsbD 0 = false → s.strobe = true → memWrite 0x4016 v s = .ok () { latched with strobe := false }) ∧
    (v.getLsbD 0 = false → s.strobe = false → memWrite 0x4016 v s = .ok () s)

/-- A read of controller 1 at 0x4016 and of controller 2 at 0x4017 (R176). -/
def Obligations.ControllerReads : Prop :=
  ∀ s : State,
    (s.strobe = true →
      memRead 0x4016 s = .ok (0x40 ||| bitByte (s.host.buttons1.getLsbD 7))
        { s with pad1 := { latch := s.host.buttons1, cursor := 0 } } ∧
      memRead 0x4017 s = .ok (0x40 ||| bitByte (s.host.buttons2.getLsbD 7))
        { s with pad2 := { latch := s.host.buttons2, cursor := 0 } }) ∧
    (s.strobe = false → s.pad1.cursor ≤ 7 →
      memRead 0x4016 s = .ok (0x40 ||| bitByte (s.pad1.latch.getLsbD (7 - s.pad1.cursor)))
        { s with pad1 := { s.pad1 with cursor := s.pad1.cursor + 1 } }) ∧
    (s.strobe = false → s.pad2.cursor ≤ 7 →
      memRead 0x4017 s = .ok (0x40 ||| bitByte (s.pad2.latch.getLsbD (7 - s.pad2.cursor)))
        { s with pad2 := { s.pad2 with cursor := s.pad2.cursor + 1 } }) ∧
    (s.strobe = false → 7 < s.pad1.cursor → memRead 0x4016 s = .ok 0x41 s) ∧
    (s.strobe = false → 7 < s.pad2.cursor → memRead 0x4017 s = .ok 0x41 s)

/-- Strobe 1 then 0, then any number of reads of one controller: its buttons come out most significant first, one a read, and
every read after the eighth gives 0x41 (R177; testable property S8). -/
def Obligations.ButtonsComeOutMostSignificantFirst : Prop :=
  ∀ (n : Nat) (s : State),
    ∃ t u, memWrite 0x4016 1 s = .ok () t ∧ memWrite 0x4016 0 t = .ok () u ∧
      readsOf n 0x4016 u = some ((List.range n).map (kthButtonByte s.host.buttons1)) ∧
      readsOf n 0x4017 u = some ((List.range n).map (kthButtonByte s.host.buttons2))

/-! ### The status register -/

/-- P as a byte: what PHP and BRK push (bit 4 set), what NMI pushes (bit 4 clear), bit 5 always 1; and loading ignores
bits 4 and 5, so that a pushed image gives back the six stored flags (R17). -/
def Obligations.StatusByteImage : Prop :=
  ∀ (f : Flags) (b : Bool) (m : Byte),
    (f.image b).getLsbD 7 = f.n ∧ (f.image b).getLsbD 6 = f.v ∧ (f.image b).getLsbD 5 = true ∧
    (f.image b).getLsbD 4 = b ∧ (f.image b).getLsbD 3 = f.d ∧ (f.image b).getLsbD 2 = f.i ∧
    (f.image b).getLsbD 1 = f.z ∧ (f.image b).getLsbD 0 = f.c ∧
    f.toByte = f.image false ∧ Flags.ofByte (f.image b) = f ∧
    (Flags.ofByte m).toByte = (m &&& 0xCF) ||| 0x20

/-! ### Results: the read class -/

/-- LDA, LDX and LDY in every form: the register takes M, Z and N follow it, nothing else of the CPU changes
(R81, R82, R83). -/
def Obligations.LoadInstructions : Prop :=
  ∀ (i : Instr) (s s1 : State) (m : Byte) (extra : Nat), OperandReads i.row.operand s m extra s1 →
    (i.row.mnemonic = .lda → exec i s = .next
      { s1 with a := m, flags := zn s.flags m, pc := nextPc i s, cycles := i.row.cycles + extra }) ∧
    (i.row.mnemonic = .ldx → exec i s = .next
      { s1 with x := m, flags := zn s.flags m, pc := nextPc i s, cycles := i.row.cycles + extra }) ∧
    (i.row.mnemonic = .ldy → exec i s = .next
      { s1 with y := m, flags := zn s.flags m, pc := nextPc i s, cycles := i.row.cycles + extra })

/-- ADC in every form, and SBC in every form as the addition of the complement (R100, R101, R102). -/
def Obligations.AddAndSubtractInstructions : Prop :=
  ∀ (i : Instr) (s s1 : State) (m : Byte) (extra : Nat), OperandReads i.row.operand s m extra s1 →
    (i.row.mnemonic = .adc → exec i s = .next
      { afterAdd s1 s.a m s.flags.c with pc := nextPc i s, cycles := i.row.cycles + extra }) ∧
    (i.row.mnemonic = .sbc → exec i s = .next
      { afterAdd s1 s.a (~~~m) s.flags.c with pc := nextPc i s, cycles := i.row.cycles + extra })

/-- What the model's AddCore computes: the sum is A + M + C modulo 256 with C its carry; SBC's, of the complement, is
A - M - (1 - C) modulo 256 with C set when there is no borrow; V records signed overflow, of ADC and of SBC; D and I are as
they were (R99, R100, R102). -/
def Obligations.AddCoreIsSignedAndUnsignedArithmetic : Prop :=
  ∀ (a m : Byte) (f : Flags),
    (addCore a m f).1 = a + m + BitVec.ofNat 8 f.c.toNat ∧
    ((addCore a m f).2.c = true ↔ 256 ≤ a.toNat + m.toNat + f.c.toNat) ∧
    ((addCore a m f).2.v = true ↔
      a.toInt + m.toInt + f.c.toNat < -128 ∨ 127 < a.toInt + m.toInt + f.c.toNat) ∧
    (addCore a (~~~m) f).1 = a - m - BitVec.ofNat 8 (1 - f.c.toNat) ∧
    ((addCore a (~~~m) f).2.c = true ↔ m.toNat + 1 - f.c.toNat ≤ a.toNat) ∧
    ((addCore a (~~~m) f).2.v = true ↔
      a.toInt - m.toInt - (1 - f.c.toNat) < -128 ∨ 127 < a.toInt - m.toInt - (1 - f.c.toNat)) ∧
    (addCore a m f).2 = { zn f (addCore a m f).1 with c := (addCore a m f).2.c, v := (addCore a m f).2.v }

/-- AND, ORA and EOR in every form (R103, R104, R105). -/
def Obligations.LogicInstructions : Prop :=
  ∀ (i : Instr) (s s1 : State) (m : Byte) (extra : Nat), OperandReads i.row.operand s m extra s1 →
    (i.row.mnemonic = .and → exec i s = .next { s1 with
      a := s.a &&& m, flags := zn s.flags (s.a &&& m), pc := nextPc i s, cycles := i.row.cycles + extra }) ∧
    (i.row.mnemonic = .ora → exec i s = .next { s1 with
      a := s.a ||| m, flags := zn s.flags (s.a ||| m), pc := nextPc i s, cycles := i.row.cycles + extra }) ∧
    (i.row.mnemonic = .eor → exec i s = .next { s1 with
      a := s.a ^^^ m, flags := zn s.flags (s.a ^^^ m), pc := nextPc i s, cycles := i.row.cycles + extra })

/-- CMP, CPX and CPY in every form: C, Z and N, never the register and never V. BIT in both forms: A is not written
(R106 to R110). -/
def Obligations.CompareAndBitInstructions : Prop :=
  ∀ (i : Instr) (s s1 : State) (m r : Byte) (extra : Nat), OperandReads i.row.operand s m extra s1 →
    ((i.row.mnemonic = .cmp ∧ r = s.a ∨ i.row.mnemonic = .cpx ∧ r = s.x ∨ i.row.mnemonic = .cpy ∧ r = s.y) →
      exec i s = .next { s1 with
        flags := { s.flags with
          c := decide (m.toNat ≤ r.toNat)
          z := decide (r.toNat = m.toNat)
          n := decide (128 ≤ (r.toNat + 256 - m.toNat) % 256) }
        pc := nextPc i s, cycles := i.row.cycles + extra }) ∧
    (i.row.mnemonic = .bit → exec i s = .next { s1 with
      flags := { s.flags with z := decide (s.a &&& m = 0), n := m.getLsbD 7, v := m.getLsbD 6 }
      pc := nextPc i s, cycles := i.row.cycles + extra })

/-! ### Results: the write and read-modify-write classes -/

/-- STA, STX and STY in every form: one data write at EA, no read of it, no flag changed, no page-cross cycle
(R84, R85, R86). -/
def Obligations.StoreInstructions : Prop :=
  ∀ (i : Instr) (s s1 : State) (md : Address) (ea : Word) (v : Byte),
    i.row.operand = .mem md → dataAddress md s = some ea →
    (i.row.mnemonic = .sta ∧ v = s.a ∨ i.row.mnemonic = .stx ∧ v = s.x ∨ i.row.mnemonic = .sty ∧ v = s.y) →
    memWrite ea v s = .ok () s1 →
    exec i s = .next { s1 with pc := nextPc i s, cycles := i.row.cycles }

/-- INC and DEC in every form: one read of EA, then one write, then Z and N (R111, R112). -/
def Obligations.IncrementAndDecrementMemory : Prop :=
  ∀ (i : Instr) (s s1 s2 : State) (md : Address) (ea : Word) (m r : Byte),
    i.row.operand = .mem md → dataAddress md s = some ea → memRead ea s = .ok m s1 →
    (i.row.mnemonic = .inc ∧ r = BitVec.ofNat 8 ((m.toNat + 1) % 256) ∨
      i.row.mnemonic = .dec ∧ r = BitVec.ofNat 8 ((m.toNat + 255) % 256)) →
    memWrite ea r s1 = .ok () s2 →
    exec i s = .next { s2 with flags := zn s.flags r, pc := nextPc i s, cycles := i.row.cycles }

/-- ASL, LSR, ROL and ROR: on memory, in every form, one read of EA, then the flags, then one write; on A, no bus access
(R117 to R121). -/
def Obligations.ShiftInstructions : Prop :=
  ∀ (i : Instr) (s s1 s2 : State) (md : Address) (ea : Word) (m : Byte),
    (i.row.operand = .mem md → dataAddress md s = some ea → memRead ea s = .ok m s1 →
      i.row.mnemonic ∈ [Mnemonic.asl, .lsr, .rol, .ror] →
      memWrite ea (shiftResult i.row.mnemonic m s.flags.c)
        { s1 with flags := afterShift i.row.mnemonic m s.flags } = .ok () s2 →
      exec i s = .next { s2 with pc := nextPc i s, cycles := i.row.cycles }) ∧
    (i.row.operand = .acc →
      exec i s = .next { s with
        a := shiftResult i.row.mnemonic s.a s.flags.c
        flags := afterShift i.row.mnemonic s.a s.flags
        pc := s.pc + 1, cycles := 2 })

/-! ### Results: registers and flags -/

/-- The register transfers, of which TXS alone writes no flag, and INX, INY, DEX and DEY, which wrap modulo 256 and leave C
(R87 to R92, R113 to R116). -/
def Obligations.RegisterInstructions : Prop :=
  ∀ s : State,
    exec .tax s = .next { s with x := s.a, flags := zn s.flags s.a, pc := s.pc + 1, cycles := 2 } ∧
    exec .tay s = .next { s with y := s.a, flags := zn s.flags s.a, pc := s.pc + 1, cycles := 2 } ∧
    exec .txa s = .next { s with a := s.x, flags := zn s.flags s.x, pc := s.pc + 1, cycles := 2 } ∧
    exec .tya s = .next { s with a := s.y, flags := zn s.flags s.y, pc := s.pc + 1, cycles := 2 } ∧
    exec .tsx s = .next { s with x := s.sp, flags := zn s.flags s.sp, pc := s.pc + 1, cycles := 2 } ∧
    exec .txs s = .next { s with sp := s.x, pc := s.pc + 1, cycles := 2 } ∧
    exec .inx s = .next { s with x := s.x + 1, flags := zn s.flags (s.x + 1), pc := s.pc + 1, cycles := 2 } ∧
    exec .iny s = .next { s with y := s.y + 1, flags := zn s.flags (s.y + 1), pc := s.pc + 1, cycles := 2 } ∧
    exec .dex s = .next { s with x := s.x - 1, flags := zn s.flags (s.x - 1), pc := s.pc + 1, cycles := 2 } ∧
    exec .dey s = .next { s with y := s.y - 1, flags := zn s.flags (s.y - 1), pc := s.pc + 1, cycles := 2 }

/-- The flag instructions touch exactly one flag, and NOP touches nothing (R138 to R145). -/
def Obligations.FlagInstructionsAndNop : Prop :=
  ∀ s : State,
    exec .clc s = .next { s with flags := { s.flags with c := false }, pc := s.pc + 1, cycles := 2 } ∧
    exec .sec s = .next { s with flags := { s.flags with c := true }, pc := s.pc + 1, cycles := 2 } ∧
    exec .cli s = .next { s with flags := { s.flags with i := false }, pc := s.pc + 1, cycles := 2 } ∧
    exec .sei s = .next { s with flags := { s.flags with i := true }, pc := s.pc + 1, cycles := 2 } ∧
    exec .cld s = .next { s with flags := { s.flags with d := false }, pc := s.pc + 1, cycles := 2 } ∧
    exec .sed s = .next { s with flags := { s.flags with d := true }, pc := s.pc + 1, cycles := 2 } ∧
    exec .clv s = .next { s with flags := { s.flags with v := false }, pc := s.pc + 1, cycles := 2 } ∧
    exec .nop s = .next { s with pc := s.pc + 1, cycles := 2 }

/-- Each of the twelve jam opcodes decodes to a jam instruction, which sets `halted` and changes nothing else: PC is not
advanced (R61, R146). -/
def Obligations.JamHalts : Prop :=
  ∀ p ∈ [((0x02 : Byte), Instr.jam02), (0x12, .jam12), (0x22, .jam22), (0x32, .jam32), (0x42, .jam42), (0x52, .jam52),
      (0x62, .jam62), (0x72, .jam72), (0x92, .jam92), (0xB2, .jamB2), (0xD2, .jamD2), (0xF2, .jamF2)],
    decode [p.1] = .ok (p.2, []) ∧ ∀ s : State, exec p.2 s = .next { s with halted := true }

/-! ### Results: the stack and control transfer -/

/-- PHA and PHP: write below, then decrement. PLA and PLP: increment, then read. S wraps within page 1 (R93, R95 to R98). -/
def Obligations.StackInstructions : Prop :=
  ∀ s : State,
    let m := s.mem.read (stackIndex (s.sp + 1))
    exec .pha s = .next { s with
      mem := s.mem.write (stackIndex s.sp) s.a, sp := s.sp - 1, pc := s.pc + 1, cycles := 3 } ∧
    exec .php s = .next { s with
      mem := s.mem.write (stackIndex s.sp) (s.flags.image true), sp := s.sp - 1, pc := s.pc + 1, cycles := 3 } ∧
    exec .pla s = .next { s with
      a := m, flags := zn s.flags m, sp := s.sp + 1, pc := s.pc + 1, cycles := 4 } ∧
    exec .plp s = .next { s with
      flags := { n := m.getLsbD 7, v := m.getLsbD 6, d := m.getLsbD 3, i := m.getLsbD 2, z := m.getLsbD 1,
                 c := m.getLsbD 0 }
      sp := s.sp + 1, pc := s.pc + 1, cycles := 4 }

/-- JMP absolute, and JMP indirect with its pointer's high byte taken from the same page; a pointer byte the router cannot
serve stops it (R76, R80, R122, R123). -/
def Obligations.JumpInstructions : Prop :=
  ∀ (w : Word) (s s1 s2 : State) (l h : Byte),
    let w2 := (w &&& 0xFF00) ||| ((w + 1) &&& 0x00FF)
    exec (.jmpAbs w) s = .next { s with pc := w, cycles := 3 } ∧
    (memRead w s = .ok l s1 → memRead w2 s1 = .ok h s2 →
      exec (.jmpInd w) s = .next { s2 with pc := join h l, cycles := 5 }) ∧
    (ReadUnserved w s →
      exec (.jmpInd w) s = .fault (.unmappedAddress w { s with fault := some (.unmappedAddress w) })) ∧
    (memRead w s = .ok l s1 → ReadUnserved w2 s1 →
      exec (.jmpInd w) s = .fault (.unmappedAddress w2 { s1 with fault := some (.unmappedAddress w2) }))

/-- JSR pushes the address of its last byte, high byte first; RTS pulls the return address, low byte first, and adds 1 (R94,
R124, R125). -/
def Obligations.SubroutineInstructions : Prop :=
  ∀ (w : Word) (s : State),
    exec (.jsr w) s = .next { s with
      mem := (s.mem.write (stackIndex s.sp) (hi (s.pc + 2))).write (stackIndex (s.sp - 1)) (lo (s.pc + 2))
      sp := s.sp - 2, pc := w, cycles := 6 } ∧
    exec .rts s = .next { s with
      sp := s.sp + 2
      pc := join (s.mem.read (stackIndex (s.sp + 2))) (s.mem.read (stackIndex (s.sp + 1))) + 1
      cycles := 6 }

/-- BRK, with a vector the cartridge answers: PC+2 and P with bit 4 set are pushed, I is set, PC comes from 0xFFFE, whatever I
is; the cartridge is as its own reads leave it (R49, log 5). RTI pulls P, its bits 4 and 5 ignored, then PC, and adds nothing
(R127, R128). -/
def Obligations.BreakAndReturnFromInterrupt : Prop :=
  ∀ (s : State) (l h : Byte) (c d : Cart),
    let m := s.mem.read (stackIndex (s.sp + 1))
    (s.cart.read 0xFFFE = some (l, c) → c.read 0xFFFF = some (h, d) →
      exec .brk s = .next { s with
        mem := ((s.mem.write (stackIndex s.sp) (hi (s.pc + 2))).write (stackIndex (s.sp - 1)) (lo (s.pc + 2))).write
          (stackIndex (s.sp - 2)) (s.flags.image true)
        sp := s.sp - 3
        flags := { s.flags with i := true }
        pc := join h l
        cycles := 7
        cart := d }) ∧
    exec .rti s = .next { s with
      flags := { n := m.getLsbD 7, v := m.getLsbD 6, d := m.getLsbD 3, i := m.getLsbD 2, z := m.getLsbD 1,
                 c := m.getLsbD 0 }
      sp := s.sp + 3
      pc := join (s.mem.read (stackIndex (s.sp + 3))) (s.mem.read (stackIndex (s.sp + 2)))
      cycles := 6 }

/-- RTI undoes the NMI sequence: the interrupted program resumes exactly where it stood, with its flags and S (R150, R156);
RTS undoes JSR, returning past it (R125). -/
def Obligations.ReturnsUndoEntries : Prop :=
  ∀ (s t : State) (w : Word),
    (nmiSeq s = .next t → ∃ u, exec .rti t = .next u ∧ u.pc = s.pc ∧ u.flags = s.flags ∧ u.sp = s.sp ∧
      u.a = s.a ∧ u.x = s.x ∧ u.y = s.y) ∧
    (exec .brk s = .next t → ∃ u, exec .rti t = .next u ∧ u.pc = s.pc + 2 ∧ u.flags = s.flags ∧ u.sp = s.sp) ∧
    (exec (.jsr w) s = .next t → ∃ u, exec .rts t = .next u ∧ u.pc = s.pc + 3 ∧ u.sp = s.sp)

/-- The conditional branches (R129 to R137): not taken 2 cycles; taken 3, or 4 when the target lies on another page than the
next instruction; no flag is written. -/
def Obligations.BranchInstructions : Prop :=
  ∀ (i : Instr) (s : State) (d : Int) (taken : Bool),
    i.row.operand = .mem (.rel d) → branchTaken i.row.mnemonic s.flags = some taken →
    let next := s.pc + 2
    let target := next + BitVec.ofInt 16 d
    exec i s = .next (if taken then { s with pc := target, cycles := if hi target = hi next then 3 else 4 }
      else { s with pc := next, cycles := 2 })

/-! ### Frames -/

/-- Instructions that store through their operand: every byte of storage but the one stored is as it was, in RAM, in I/O storage
and in a cartridge of windows (log 5); so is every register and latch but the flags; and of the video unit, the controllers with
their strobe, the byte at 0x4017 and the cartridge only the one EA names can change. At 0x4017 a store leaves controller 2, and
a read-modify-write reads it (R18, R36, R39, R79). -/
def Obligations.StoreFrame : Prop :=
  ∀ (i : Instr) (s t : State) (md : Address) (ea : Word),
    storesThroughOperand i = true → i.row.operand = .mem md → dataAddress md s = some ea → exec i s = .next t →
    (∀ b : Word, route b ≠ route ea ∨ route ea = .cart ∧ s.cart.sameByte ea b = false → t.peek b = s.peek b) ∧
    t.a = s.a ∧ t.x = s.x ∧ t.y = s.y ∧ t.sp = s.sp ∧ OutsideKept s t ∧ t.halted = s.halted ∧
    (t.flags = s.flags ∨ i.row.mnemonic ∉ [Mnemonic.sta, .stx, .sty]) ∧
    t.flags = { s.flags with z := t.flags.z, n := t.flags.n, c := t.flags.c } ∧
    ((∀ r, route ea ≠ .vreg r) → t.video = s.video ∧ t.draws = s.draws ∧ t.vramLog = s.vramLog) ∧
    (route ea ≠ .pad .one → t.pad1 = s.pad1 ∧ t.strobe = s.strobe) ∧
    (route ea ≠ .pad .one → route ea ≠ .pad .two ∨ i.row.mnemonic ∈ [Mnemonic.sta, .stx, .sty] → t.pad2 = s.pad2) ∧
    (route ea ≠ .pad .two → t.io4017w = s.io4017w) ∧
    (route ea ≠ .cart → t.cart = s.cart)

/-- Instructions that push: every byte of storage but the stack bytes pushed is as it was, of the registers only S, PC and, for
BRK, I change, and BRK alone reads the cartridge (R93, R124, R127; of a cartridge that is no list of windows nothing is said
for BRK, log 5). -/
def Obligations.PushFrame : Prop :=
  ∀ (i : Instr) (s t : State), 0 < pushedBytes i.row.mnemonic → exec i s = .next t →
    (∀ b : Word, (∀ k, k < pushedBytes i.row.mnemonic → route b ≠ .ram (stackIndex (s.sp - BitVec.ofNat 8 k))) →
      t.peek b = s.peek b) ∧
    t.a = s.a ∧ t.x = s.x ∧ t.y = s.y ∧ t.sp = s.sp - BitVec.ofNat 8 (pushedBytes i.row.mnemonic) ∧
    t.flags = { s.flags with i := t.flags.i } ∧ (t.flags = s.flags ∨ i.row.mnemonic = .brk) ∧
    OutsideKept s t ∧ t.halted = s.halted ∧ DevicesKept s t ∧
    WindowsKept s t ∧ (i.row.mnemonic ≠ .brk → t.cart = s.cart)

/-- Instructions that store nothing: every byte of storage is as it was, and so are the strobe, the byte at 0x4017, the outputs,
the latches, the host's inputs and a cartridge of windows (log 5); of the video unit a read can change the vblank flag, the
toggle and the address only; one that reads no memory operand leaves every device and every cartridge as it was (R49, R79). -/
def Obligations.NoStoreFrame : Prop :=
  ∀ (i : Instr) (s t : State), storesThroughOperand i = false → pushedBytes i.row.mnemonic = 0 → exec i s = .next t →
    (∀ b : Word, t.peek b = s.peek b) ∧ t.mem = s.mem ∧ t.io4017w = s.io4017w ∧ t.strobe = s.strobe ∧
    t.vramLog = s.vramLog ∧ VideoReadOnly s.video t.video ∧ OutsideKept s t ∧ WindowsKept s t ∧
    (readsThroughOperand i = false → DevicesKept s t ∧ t.cart = s.cart)

/-! ### Rules about the whole machine -/

/-- Which instructions write which register (R13, R14): A, X, Y and S change only by the instructions the table names. -/
def Obligations.RegistersChangeOnlyByTheirInstructions : Prop :=
  ∀ (i : Instr) (s t : State), exec i s = .next t →
    (i.row.mnemonic ∉ [Mnemonic.ldx, .tax, .tsx, .inx, .dex] → t.x = s.x) ∧
    (i.row.mnemonic ∉ [Mnemonic.ldy, .tay, .iny, .dey] → t.y = s.y) ∧
    (i.row.mnemonic ∉ [Mnemonic.pha, .php, .pla, .plp, .jsr, .rts, .brk, .rti, .txs] → t.sp = s.sp) ∧
    (i.row.mnemonic ∉ [Mnemonic.lda, .txa, .tya, .pla, .adc, .sbc, .and, .ora, .eor] → i.row.operand ≠ .acc → t.a = s.a)

/-- Which instructions write which flags, by class (R18). -/
def Obligations.FlagsChangeOnlyByTheirClass : Prop :=
  ∀ (i : Instr) (s t : State), exec i s = .next t → i.row.mnemonic ∉ [Mnemonic.plp, .rti] →
    (i.row.mnemonic ∉ [Mnemonic.sed, .cld] → t.flags.d = s.flags.d) ∧
    (i.row.mnemonic ∉ [Mnemonic.sei, .cli, .brk] → t.flags.i = s.flags.i) ∧
    (i.row.mnemonic ∉ [Mnemonic.adc, .sbc, .bit, .clv] → t.flags.v = s.flags.v) ∧
    (i.row.mnemonic ∉ [Mnemonic.adc, .sbc, .cmp, .cpx, .cpy, .asl, .lsr, .rol, .ror, .sec, .clc] →
      t.flags.c = s.flags.c) ∧
    (i.row.mnemonic ∈ [Mnemonic.sta, .stx, .sty, .txs, .pha, .php, .bcc, .bcs, .beq, .bne, .bmi, .bpl, .bvc, .bvs, .jmp,
        .jsr, .rts, .nop, .jam] → t.flags = s.flags) ∧
    (i.row.mnemonic ∈ [Mnemonic.clc, .sec, .cli, .sei, .cld, .sed, .clv, .brk] →
      t.flags.z = s.flags.z ∧ t.flags.n = s.flags.n)

/-- Only the jam opcodes halt, and every other instruction that completes returns 2 to 7 cycles (R11, R20). That a halt leaves
the count of the step before it in `cycles`, the model's own field, is the model's choice (log 7). -/
def Obligations.OnlyJamHaltsAndCyclesAreTwoToSeven : Prop :=
  ∀ (i : Instr) (s t : State), exec i s = .next t →
    (i.row.mnemonic = .jam → t.halted = true ∧ t.cycles = s.cycles) ∧
    (i.row.mnemonic ≠ .jam → t.halted = s.halted ∧ 2 ≤ t.cycles ∧ t.cycles ≤ 7)

/-- The decimal flag has no effect on any ADC or SBC: two runs that differ only in it still differ only in it (R99). -/
def Obligations.DecimalFlagHasNoEffectOnArithmetic : Prop :=
  ∀ (i : Instr) (s : State) (b : Bool), i.row.mnemonic = .adc ∨ i.row.mnemonic = .sbc →
    mapNext id (exec i (withDecimal b s)) = mapNext (withDecimal b) (exec i s)

/-- A step that is taken leaves no fault record (R21); and no step changes the reference cartridge, whose reads have no side
effect and which ignores every write it answers (R43, R49, R180). That the cartridge is held as data which its own answers may
change is the model's choice of form (log 5). -/
def Obligations.StepKeepsCartridgeAndRecord : Prop :=
  ∀ (s t : State) (prg : Memory) (size : Nat), step s = .next t →
    t.fault = none ∧ (s.cart = Cart.reference prg size → t.cart = s.cart)

/-! ### The invariant -/

/-- The invariant holds at power-on. -/
def Obligations.PowerOnMeetsTheInvariant : Prop := State.reset.Inv

/-- Every step keeps the invariant: storage canonical (RAM, I/O storage, OAM and the images of a cartridge's windows) and the
machine's own within its keys, the video counter, the cursors and the cycle count in their ranges (R11, R22, R23, R24, R28). -/
def Obligations.StepKeepsTheInvariant : Prop :=
  ∀ s t : State, s.Inv → step s = .next t → t.Inv
end

