-- ==== Sys2Proof/Laws/PerInstr.lean ====
section
/-! SUPPORT. Laws made per instruction, one lemma per constructor. -/

namespace Sys2Proof.Laws

/-- A displacement that fits its byte survives the encoding (R56, R63). -/
theorem toInt_ofInt_of_dispFits {d : Int} (h : dispFits d = true) : (BitVec.ofInt 8 d).toInt = d := by
  simp only [dispFits, decide_eq_true_eq] at h
  rw [BitVec.toInt_ofInt]
  simp only [Int.bmod]
  omega

/-- The two bytes of an address, joined again, are the address (R9). -/
@[simp] theorem join_hi_lo (w : Word) : join (hi w) (lo w) = w := by
  apply BitVec.eq_of_getLsbD_eq
  intro i hi'
  simp only [join, hi, lo, BitVec.getLsbD_append, BitVec.getLsbD_extractLsb']
  by_cases h : i < 8
  · simp [h]
  · have : 8 + (i - 8) = i := by omega
    simp [h, this]; omega

namespace RoundTrip

/-- Decoding an instruction's encoding, with nothing after it, gives it back (R54, R56, R57, R58). -/
def Statement (i : Instr) : Prop := i.wellFormed = true → decode (encode i) = .ok (i, [])

theorem ldaImm (v : Byte) : Statement (.ldaImm v) := fun _ =>
  show decode [0xA9, v] = .ok (.ldaImm v, []) from rfl
theorem ldaZp (b : Byte) : Statement (.ldaZp b) := fun _ =>
  show decode [0xA5, b] = .ok (.ldaZp b, []) from rfl
theorem ldaZpx (b : Byte) : Statement (.ldaZpx b) := fun _ =>
  show decode [0xB5, b] = .ok (.ldaZpx b, []) from rfl
theorem ldaAbs (w : Word) : Statement (.ldaAbs w) := fun _ =>
  (show decode [0xAD, lo w, hi w] = .ok (.ldaAbs (join (hi w) (lo w)), []) from rfl).trans (by rw [join_hi_lo])
theorem ldaAbx (w : Word) : Statement (.ldaAbx w) := fun _ =>
  (show decode [0xBD, lo w, hi w] = .ok (.ldaAbx (join (hi w) (lo w)), []) from rfl).trans (by rw [join_hi_lo])
theorem ldaAby (w : Word) : Statement (.ldaAby w) := fun _ =>
  (show decode [0xB9, lo w, hi w] = .ok (.ldaAby (join (hi w) (lo w)), []) from rfl).trans (by rw [join_hi_lo])
theorem ldaIzx (b : Byte) : Statement (.ldaIzx b) := fun _ =>
  show decode [0xA1, b] = .ok (.ldaIzx b, []) from rfl
theorem ldaIzy (b : Byte) : Statement (.ldaIzy b) := fun _ =>
  show decode [0xB1, b] = .ok (.ldaIzy b, []) from rfl
theorem ldxImm (v : Byte) : Statement (.ldxImm v) := fun _ =>
  show decode [0xA2, v] = .ok (.ldxImm v, []) from rfl
theorem ldxZp (b : Byte) : Statement (.ldxZp b) := fun _ =>
  show decode [0xA6, b] = .ok (.ldxZp b, []) from rfl
theorem ldxZpy (b : Byte) : Statement (.ldxZpy b) := fun _ =>
  show decode [0xB6, b] = .ok (.ldxZpy b, []) from rfl
theorem ldxAbs (w : Word) : Statement (.ldxAbs w) := fun _ =>
  (show decode [0xAE, lo w, hi w] = .ok (.ldxAbs (join (hi w) (lo w)), []) from rfl).trans (by rw [join_hi_lo])
theorem ldxAby (w : Word) : Statement (.ldxAby w) := fun _ =>
  (show decode [0xBE, lo w, hi w] = .ok (.ldxAby (join (hi w) (lo w)), []) from rfl).trans (by rw [join_hi_lo])
theorem ldyImm (v : Byte) : Statement (.ldyImm v) := fun _ =>
  show decode [0xA0, v] = .ok (.ldyImm v, []) from rfl
theorem ldyZp (b : Byte) : Statement (.ldyZp b) := fun _ =>
  show decode [0xA4, b] = .ok (.ldyZp b, []) from rfl
theorem ldyZpx (b : Byte) : Statement (.ldyZpx b) := fun _ =>
  show decode [0xB4, b] = .ok (.ldyZpx b, []) from rfl
theorem ldyAbs (w : Word) : Statement (.ldyAbs w) := fun _ =>
  (show decode [0xAC, lo w, hi w] = .ok (.ldyAbs (join (hi w) (lo w)), []) from rfl).trans (by rw [join_hi_lo])
theorem ldyAbx (w : Word) : Statement (.ldyAbx w) := fun _ =>
  (show decode [0xBC, lo w, hi w] = .ok (.ldyAbx (join (hi w) (lo w)), []) from rfl).trans (by rw [join_hi_lo])
theorem staZp (b : Byte) : Statement (.staZp b) := fun _ =>
  show decode [0x85, b] = .ok (.staZp b, []) from rfl
theorem staZpx (b : Byte) : Statement (.staZpx b) := fun _ =>
  show decode [0x95, b] = .ok (.staZpx b, []) from rfl
theorem staAbs (w : Word) : Statement (.staAbs w) := fun _ =>
  (show decode [0x8D, lo w, hi w] = .ok (.staAbs (join (hi w) (lo w)), []) from rfl).trans (by rw [join_hi_lo])
theorem staAbx (w : Word) : Statement (.staAbx w) := fun _ =>
  (show decode [0x9D, lo w, hi w] = .ok (.staAbx (join (hi w) (lo w)), []) from rfl).trans (by rw [join_hi_lo])
theorem staAby (w : Word) : Statement (.staAby w) := fun _ =>
  (show decode [0x99, lo w, hi w] = .ok (.staAby (join (hi w) (lo w)), []) from rfl).trans (by rw [join_hi_lo])
theorem staIzx (b : Byte) : Statement (.staIzx b) := fun _ =>
  show decode [0x81, b] = .ok (.staIzx b, []) from rfl
theorem staIzy (b : Byte) : Statement (.staIzy b) := fun _ =>
  show decode [0x91, b] = .ok (.staIzy b, []) from rfl
theorem stxZp (b : Byte) : Statement (.stxZp b) := fun _ =>
  show decode [0x86, b] = .ok (.stxZp b, []) from rfl
theorem stxZpy (b : Byte) : Statement (.stxZpy b) := fun _ =>
  show decode [0x96, b] = .ok (.stxZpy b, []) from rfl
theorem stxAbs (w : Word) : Statement (.stxAbs w) := fun _ =>
  (show decode [0x8E, lo w, hi w] = .ok (.stxAbs (join (hi w) (lo w)), []) from rfl).trans (by rw [join_hi_lo])
theorem styZp (b : Byte) : Statement (.styZp b) := fun _ =>
  show decode [0x84, b] = .ok (.styZp b, []) from rfl
theorem styZpx (b : Byte) : Statement (.styZpx b) := fun _ =>
  show decode [0x94, b] = .ok (.styZpx b, []) from rfl
theorem styAbs (w : Word) : Statement (.styAbs w) := fun _ =>
  (show decode [0x8C, lo w, hi w] = .ok (.styAbs (join (hi w) (lo w)), []) from rfl).trans (by rw [join_hi_lo])
theorem tax : Statement (.tax) := fun _ =>
  show decode [0xAA] = .ok (.tax, []) from rfl
theorem tay : Statement (.tay) := fun _ =>
  show decode [0xA8] = .ok (.tay, []) from rfl
theorem txa : Statement (.txa) := fun _ =>
  show decode [0x8A] = .ok (.txa, []) from rfl
theorem tya : Statement (.tya) := fun _ =>
  show decode [0x98] = .ok (.tya, []) from rfl
theorem tsx : Statement (.tsx) := fun _ =>
  show decode [0xBA] = .ok (.tsx, []) from rfl
theorem txs : Statement (.txs) := fun _ =>
  show decode [0x9A] = .ok (.txs, []) from rfl
theorem pha : Statement (.pha) := fun _ =>
  show decode [0x48] = .ok (.pha, []) from rfl
theorem php : Statement (.php) := fun _ =>
  show decode [0x08] = .ok (.php, []) from rfl
theorem pla : Statement (.pla) := fun _ =>
  show decode [0x68] = .ok (.pla, []) from rfl
theorem plp : Statement (.plp) := fun _ =>
  show decode [0x28] = .ok (.plp, []) from rfl
theorem adcImm (v : Byte) : Statement (.adcImm v) := fun _ =>
  show decode [0x69, v] = .ok (.adcImm v, []) from rfl
theorem adcZp (b : Byte) : Statement (.adcZp b) := fun _ =>
  show decode [0x65, b] = .ok (.adcZp b, []) from rfl
theorem adcZpx (b : Byte) : Statement (.adcZpx b) := fun _ =>
  show decode [0x75, b] = .ok (.adcZpx b, []) from rfl
theorem adcAbs (w : Word) : Statement (.adcAbs w) := fun _ =>
  (show decode [0x6D, lo w, hi w] = .ok (.adcAbs (join (hi w) (lo w)), []) from rfl).trans (by rw [join_hi_lo])
theorem adcAbx (w : Word) : Statement (.adcAbx w) := fun _ =>
  (show decode [0x7D, lo w, hi w] = .ok (.adcAbx (join (hi w) (lo w)), []) from rfl).trans (by rw [join_hi_lo])
theorem adcAby (w : Word) : Statement (.adcAby w) := fun _ =>
  (show decode [0x79, lo w, hi w] = .ok (.adcAby (join (hi w) (lo w)), []) from rfl).trans (by rw [join_hi_lo])
theorem adcIzx (b : Byte) : Statement (.adcIzx b) := fun _ =>
  show decode [0x61, b] = .ok (.adcIzx b, []) from rfl
theorem adcIzy (b : Byte) : Statement (.adcIzy b) := fun _ =>
  show decode [0x71, b] = .ok (.adcIzy b, []) from rfl
theorem sbcImm (v : Byte) : Statement (.sbcImm v) := fun _ =>
  show decode [0xE9, v] = .ok (.sbcImm v, []) from rfl
theorem sbcZp (b : Byte) : Statement (.sbcZp b) := fun _ =>
  show decode [0xE5, b] = .ok (.sbcZp b, []) from rfl
theorem sbcZpx (b : Byte) : Statement (.sbcZpx b) := fun _ =>
  show decode [0xF5, b] = .ok (.sbcZpx b, []) from rfl
theorem sbcAbs (w : Word) : Statement (.sbcAbs w) := fun _ =>
  (show decode [0xED, lo w, hi w] = .ok (.sbcAbs (join (hi w) (lo w)), []) from rfl).trans (by rw [join_hi_lo])
theorem sbcAbx (w : Word) : Statement (.sbcAbx w) := fun _ =>
  (show decode [0xFD, lo w, hi w] = .ok (.sbcAbx (join (hi w) (lo w)), []) from rfl).trans (by rw [join_hi_lo])
theorem sbcAby (w : Word) : Statement (.sbcAby w) := fun _ =>
  (show decode [0xF9, lo w, hi w] = .ok (.sbcAby (join (hi w) (lo w)), []) from rfl).trans (by rw [join_hi_lo])
theorem sbcIzx (b : Byte) : Statement (.sbcIzx b) := fun _ =>
  show decode [0xE1, b] = .ok (.sbcIzx b, []) from rfl
theorem sbcIzy (b : Byte) : Statement (.sbcIzy b) := fun _ =>
  show decode [0xF1, b] = .ok (.sbcIzy b, []) from rfl
theorem andImm (v : Byte) : Statement (.andImm v) := fun _ =>
  show decode [0x29, v] = .ok (.andImm v, []) from rfl
theorem andZp (b : Byte) : Statement (.andZp b) := fun _ =>
  show decode [0x25, b] = .ok (.andZp b, []) from rfl
theorem andZpx (b : Byte) : Statement (.andZpx b) := fun _ =>
  show decode [0x35, b] = .ok (.andZpx b, []) from rfl
theorem andAbs (w : Word) : Statement (.andAbs w) := fun _ =>
  (show decode [0x2D, lo w, hi w] = .ok (.andAbs (join (hi w) (lo w)), []) from rfl).trans (by rw [join_hi_lo])
theorem andAbx (w : Word) : Statement (.andAbx w) := fun _ =>
  (show decode [0x3D, lo w, hi w] = .ok (.andAbx (join (hi w) (lo w)), []) from rfl).trans (by rw [join_hi_lo])
theorem andAby (w : Word) : Statement (.andAby w) := fun _ =>
  (show decode [0x39, lo w, hi w] = .ok (.andAby (join (hi w) (lo w)), []) from rfl).trans (by rw [join_hi_lo])
theorem andIzx (b : Byte) : Statement (.andIzx b) := fun _ =>
  show decode [0x21, b] = .ok (.andIzx b, []) from rfl
theorem andIzy (b : Byte) : Statement (.andIzy b) := fun _ =>
  show decode [0x31, b] = .ok (.andIzy b, []) from rfl
theorem oraImm (v : Byte) : Statement (.oraImm v) := fun _ =>
  show decode [0x09, v] = .ok (.oraImm v, []) from rfl
theorem oraZp (b : Byte) : Statement (.oraZp b) := fun _ =>
  show decode [0x05, b] = .ok (.oraZp b, []) from rfl
theorem oraZpx (b : Byte) : Statement (.oraZpx b) := fun _ =>
  show decode [0x15, b] = .ok (.oraZpx b, []) from rfl
theorem oraAbs (w : Word) : Statement (.oraAbs w) := fun _ =>
  (show decode [0x0D, lo w, hi w] = .ok (.oraAbs (join (hi w) (lo w)), []) from rfl).trans (by rw [join_hi_lo])
theorem oraAbx (w : Word) : Statement (.oraAbx w) := fun _ =>
  (show decode [0x1D, lo w, hi w] = .ok (.oraAbx (join (hi w) (lo w)), []) from rfl).trans (by rw [join_hi_lo])
theorem oraAby (w : Word) : Statement (.oraAby w) := fun _ =>
  (show decode [0x19, lo w, hi w] = .ok (.oraAby (join (hi w) (lo w)), []) from rfl).trans (by rw [join_hi_lo])
theorem oraIzx (b : Byte) : Statement (.oraIzx b) := fun _ =>
  show decode [0x01, b] = .ok (.oraIzx b, []) from rfl
theorem oraIzy (b : Byte) : Statement (.oraIzy b) := fun _ =>
  show decode [0x11, b] = .ok (.oraIzy b, []) from rfl
theorem eorImm (v : Byte) : Statement (.eorImm v) := fun _ =>
  show decode [0x49, v] = .ok (.eorImm v, []) from rfl
theorem eorZp (b : Byte) : Statement (.eorZp b) := fun _ =>
  show decode [0x45, b] = .ok (.eorZp b, []) from rfl
theorem eorZpx (b : Byte) : Statement (.eorZpx b) := fun _ =>
  show decode [0x55, b] = .ok (.eorZpx b, []) from rfl
theorem eorAbs (w : Word) : Statement (.eorAbs w) := fun _ =>
  (show decode [0x4D, lo w, hi w] = .ok (.eorAbs (join (hi w) (lo w)), []) from rfl).trans (by rw [join_hi_lo])
theorem eorAbx (w : Word) : Statement (.eorAbx w) := fun _ =>
  (show decode [0x5D, lo w, hi w] = .ok (.eorAbx (join (hi w) (lo w)), []) from rfl).trans (by rw [join_hi_lo])
theorem eorAby (w : Word) : Statement (.eorAby w) := fun _ =>
  (show decode [0x59, lo w, hi w] = .ok (.eorAby (join (hi w) (lo w)), []) from rfl).trans (by rw [join_hi_lo])
theorem eorIzx (b : Byte) : Statement (.eorIzx b) := fun _ =>
  show decode [0x41, b] = .ok (.eorIzx b, []) from rfl
theorem eorIzy (b : Byte) : Statement (.eorIzy b) := fun _ =>
  show decode [0x51, b] = .ok (.eorIzy b, []) from rfl
theorem bitZp (b : Byte) : Statement (.bitZp b) := fun _ =>
  show decode [0x24, b] = .ok (.bitZp b, []) from rfl
theorem bitAbs (w : Word) : Statement (.bitAbs w) := fun _ =>
  (show decode [0x2C, lo w, hi w] = .ok (.bitAbs (join (hi w) (lo w)), []) from rfl).trans (by rw [join_hi_lo])
theorem cmpImm (v : Byte) : Statement (.cmpImm v) := fun _ =>
  show decode [0xC9, v] = .ok (.cmpImm v, []) from rfl
theorem cmpZp (b : Byte) : Statement (.cmpZp b) := fun _ =>
  show decode [0xC5, b] = .ok (.cmpZp b, []) from rfl
theorem cmpZpx (b : Byte) : Statement (.cmpZpx b) := fun _ =>
  show decode [0xD5, b] = .ok (.cmpZpx b, []) from rfl
theorem cmpAbs (w : Word) : Statement (.cmpAbs w) := fun _ =>
  (show decode [0xCD, lo w, hi w] = .ok (.cmpAbs (join (hi w) (lo w)), []) from rfl).trans (by rw [join_hi_lo])
theorem cmpAbx (w : Word) : Statement (.cmpAbx w) := fun _ =>
  (show decode [0xDD, lo w, hi w] = .ok (.cmpAbx (join (hi w) (lo w)), []) from rfl).trans (by rw [join_hi_lo])
theorem cmpAby (w : Word) : Statement (.cmpAby w) := fun _ =>
  (show decode [0xD9, lo w, hi w] = .ok (.cmpAby (join (hi w) (lo w)), []) from rfl).trans (by rw [join_hi_lo])
theorem cmpIzx (b : Byte) : Statement (.cmpIzx b) := fun _ =>
  show decode [0xC1, b] = .ok (.cmpIzx b, []) from rfl
theorem cmpIzy (b : Byte) : Statement (.cmpIzy b) := fun _ =>
  show decode [0xD1, b] = .ok (.cmpIzy b, []) from rfl
theorem cpxImm (v : Byte) : Statement (.cpxImm v) := fun _ =>
  show decode [0xE0, v] = .ok (.cpxImm v, []) from rfl
theorem cpxZp (b : Byte) : Statement (.cpxZp b) := fun _ =>
  show decode [0xE4, b] = .ok (.cpxZp b, []) from rfl
theorem cpxAbs (w : Word) : Statement (.cpxAbs w) := fun _ =>
  (show decode [0xEC, lo w, hi w] = .ok (.cpxAbs (join (hi w) (lo w)), []) from rfl).trans (by rw [join_hi_lo])
theorem cpyImm (v : Byte) : Statement (.cpyImm v) := fun _ =>
  show decode [0xC0, v] = .ok (.cpyImm v, []) from rfl
theorem cpyZp (b : Byte) : Statement (.cpyZp b) := fun _ =>
  show decode [0xC4, b] = .ok (.cpyZp b, []) from rfl
theorem cpyAbs (w : Word) : Statement (.cpyAbs w) := fun _ =>
  (show decode [0xCC, lo w, hi w] = .ok (.cpyAbs (join (hi w) (lo w)), []) from rfl).trans (by rw [join_hi_lo])
theorem incZp (b : Byte) : Statement (.incZp b) := fun _ =>
  show decode [0xE6, b] = .ok (.incZp b, []) from rfl
theorem incZpx (b : Byte) : Statement (.incZpx b) := fun _ =>
  show decode [0xF6, b] = .ok (.incZpx b, []) from rfl
theorem incAbs (w : Word) : Statement (.incAbs w) := fun _ =>
  (show decode [0xEE, lo w, hi w] = .ok (.incAbs (join (hi w) (lo w)), []) from rfl).trans (by rw [join_hi_lo])
theorem incAbx (w : Word) : Statement (.incAbx w) := fun _ =>
  (show decode [0xFE, lo w, hi w] = .ok (.incAbx (join (hi w) (lo w)), []) from rfl).trans (by rw [join_hi_lo])
theorem decZp (b : Byte) : Statement (.decZp b) := fun _ =>
  show decode [0xC6, b] = .ok (.decZp b, []) from rfl
theorem decZpx (b : Byte) : Statement (.decZpx b) := fun _ =>
  show decode [0xD6, b] = .ok (.decZpx b, []) from rfl
theorem decAbs (w : Word) : Statement (.decAbs w) := fun _ =>
  (show decode [0xCE, lo w, hi w] = .ok (.decAbs (join (hi w) (lo w)), []) from rfl).trans (by rw [join_hi_lo])
theorem decAbx (w : Word) : Statement (.decAbx w) := fun _ =>
  (show decode [0xDE, lo w, hi w] = .ok (.decAbx (join (hi w) (lo w)), []) from rfl).trans (by rw [join_hi_lo])
theorem inx : Statement (.inx) := fun _ =>
  show decode [0xE8] = .ok (.inx, []) from rfl
theorem iny : Statement (.iny) := fun _ =>
  show decode [0xC8] = .ok (.iny, []) from rfl
theorem dex : Statement (.dex) := fun _ =>
  show decode [0xCA] = .ok (.dex, []) from rfl
theorem dey : Statement (.dey) := fun _ =>
  show decode [0x88] = .ok (.dey, []) from rfl
theorem aslAcc : Statement (.aslAcc) := fun _ =>
  show decode [0x0A] = .ok (.aslAcc, []) from rfl
theorem aslZp (b : Byte) : Statement (.aslZp b) := fun _ =>
  show decode [0x06, b] = .ok (.aslZp b, []) from rfl
theorem aslZpx (b : Byte) : Statement (.aslZpx b) := fun _ =>
  show decode [0x16, b] = .ok (.aslZpx b, []) from rfl
theorem aslAbs (w : Word) : Statement (.aslAbs w) := fun _ =>
  (show decode [0x0E, lo w, hi w] = .ok (.aslAbs (join (hi w) (lo w)), []) from rfl).trans (by rw [join_hi_lo])
theorem aslAbx (w : Word) : Statement (.aslAbx w) := fun _ =>
  (show decode [0x1E, lo w, hi w] = .ok (.aslAbx (join (hi w) (lo w)), []) from rfl).trans (by rw [join_hi_lo])
theorem lsrAcc : Statement (.lsrAcc) := fun _ =>
  show decode [0x4A] = .ok (.lsrAcc, []) from rfl
theorem lsrZp (b : Byte) : Statement (.lsrZp b) := fun _ =>
  show decode [0x46, b] = .ok (.lsrZp b, []) from rfl
theorem lsrZpx (b : Byte) : Statement (.lsrZpx b) := fun _ =>
  show decode [0x56, b] = .ok (.lsrZpx b, []) from rfl
theorem lsrAbs (w : Word) : Statement (.lsrAbs w) := fun _ =>
  (show decode [0x4E, lo w, hi w] = .ok (.lsrAbs (join (hi w) (lo w)), []) from rfl).trans (by rw [join_hi_lo])
theorem lsrAbx (w : Word) : Statement (.lsrAbx w) := fun _ =>
  (show decode [0x5E, lo w, hi w] = .ok (.lsrAbx (join (hi w) (lo w)), []) from rfl).trans (by rw [join_hi_lo])
theorem rolAcc : Statement (.rolAcc) := fun _ =>
  show decode [0x2A] = .ok (.rolAcc, []) from rfl
theorem rolZp (b : Byte) : Statement (.rolZp b) := fun _ =>
  show decode [0x26, b] = .ok (.rolZp b, []) from rfl
theorem rolZpx (b : Byte) : Statement (.rolZpx b) := fun _ =>
  show decode [0x36, b] = .ok (.rolZpx b, []) from rfl
theorem rolAbs (w : Word) : Statement (.rolAbs w) := fun _ =>
  (show decode [0x2E, lo w, hi w] = .ok (.rolAbs (join (hi w) (lo w)), []) from rfl).trans (by rw [join_hi_lo])
theorem rolAbx (w : Word) : Statement (.rolAbx w) := fun _ =>
  (show decode [0x3E, lo w, hi w] = .ok (.rolAbx (join (hi w) (lo w)), []) from rfl).trans (by rw [join_hi_lo])
theorem rorAcc : Statement (.rorAcc) := fun _ =>
  show decode [0x6A] = .ok (.rorAcc, []) from rfl
theorem rorZp (b : Byte) : Statement (.rorZp b) := fun _ =>
  show decode [0x66, b] = .ok (.rorZp b, []) from rfl
theorem rorZpx (b : Byte) : Statement (.rorZpx b) := fun _ =>
  show decode [0x76, b] = .ok (.rorZpx b, []) from rfl
theorem rorAbs (w : Word) : Statement (.rorAbs w) := fun _ =>
  (show decode [0x6E, lo w, hi w] = .ok (.rorAbs (join (hi w) (lo w)), []) from rfl).trans (by rw [join_hi_lo])
theorem rorAbx (w : Word) : Statement (.rorAbx w) := fun _ =>
  (show decode [0x7E, lo w, hi w] = .ok (.rorAbx (join (hi w) (lo w)), []) from rfl).trans (by rw [join_hi_lo])
theorem jmpAbs (w : Word) : Statement (.jmpAbs w) := fun _ =>
  (show decode [0x4C, lo w, hi w] = .ok (.jmpAbs (join (hi w) (lo w)), []) from rfl).trans (by rw [join_hi_lo])
theorem jmpInd (w : Word) : Statement (.jmpInd w) := fun _ =>
  (show decode [0x6C, lo w, hi w] = .ok (.jmpInd (join (hi w) (lo w)), []) from rfl).trans (by rw [join_hi_lo])
theorem jsr (w : Word) : Statement (.jsr w) := fun _ =>
  (show decode [0x20, lo w, hi w] = .ok (.jsr (join (hi w) (lo w)), []) from rfl).trans (by rw [join_hi_lo])
theorem rts : Statement (.rts) := fun _ =>
  show decode [0x60] = .ok (.rts, []) from rfl
theorem brk : Statement (.brk) := fun _ =>
  show decode [0x00] = .ok (.brk, []) from rfl
theorem rti : Statement (.rti) := fun _ =>
  show decode [0x40] = .ok (.rti, []) from rfl
theorem bcc (d : Int) : Statement (.bcc d) := fun h =>
  (show decode [0x90, BitVec.ofInt 8 d] = .ok (.bcc (BitVec.ofInt 8 d).toInt, []) from rfl).trans
    (by rw [toInt_ofInt_of_dispFits h])
theorem bcs (d : Int) : Statement (.bcs d) := fun h =>
  (show decode [0xB0, BitVec.ofInt 8 d] = .ok (.bcs (BitVec.ofInt 8 d).toInt, []) from rfl).trans
    (by rw [toInt_ofInt_of_dispFits h])
theorem beq (d : Int) : Statement (.beq d) := fun h =>
  (show decode [0xF0, BitVec.ofInt 8 d] = .ok (.beq (BitVec.ofInt 8 d).toInt, []) from rfl).trans
    (by rw [toInt_ofInt_of_dispFits h])
theorem bne (d : Int) : Statement (.bne d) := fun h =>
  (show decode [0xD0, BitVec.ofInt 8 d] = .ok (.bne (BitVec.ofInt 8 d).toInt, []) from rfl).trans
    (by rw [toInt_ofInt_of_dispFits h])
theorem bmi (d : Int) : Statement (.bmi d) := fun h =>
  (show decode [0x30, BitVec.ofInt 8 d] = .ok (.bmi (BitVec.ofInt 8 d).toInt, []) from rfl).trans
    (by rw [toInt_ofInt_of_dispFits h])
theorem bpl (d : Int) : Statement (.bpl d) := fun h =>
  (show decode [0x10, BitVec.ofInt 8 d] = .ok (.bpl (BitVec.ofInt 8 d).toInt, []) from rfl).trans
    (by rw [toInt_ofInt_of_dispFits h])
theorem bvc (d : Int) : Statement (.bvc d) := fun h =>
  (show decode [0x50, BitVec.ofInt 8 d] = .ok (.bvc (BitVec.ofInt 8 d).toInt, []) from rfl).trans
    (by rw [toInt_ofInt_of_dispFits h])
theorem bvs (d : Int) : Statement (.bvs d) := fun h =>
  (show decode [0x70, BitVec.ofInt 8 d] = .ok (.bvs (BitVec.ofInt 8 d).toInt, []) from rfl).trans
    (by rw [toInt_ofInt_of_dispFits h])
theorem clc : Statement (.clc) := fun _ =>
  show decode [0x18] = .ok (.clc, []) from rfl
theorem sec : Statement (.sec) := fun _ =>
  show decode [0x38] = .ok (.sec, []) from rfl
theorem cli : Statement (.cli) := fun _ =>
  show decode [0x58] = .ok (.cli, []) from rfl
theorem sei : Statement (.sei) := fun _ =>
  show decode [0x78] = .ok (.sei, []) from rfl
theorem cld : Statement (.cld) := fun _ =>
  show decode [0xD8] = .ok (.cld, []) from rfl
theorem sed : Statement (.sed) := fun _ =>
  show decode [0xF8] = .ok (.sed, []) from rfl
theorem clv : Statement (.clv) := fun _ =>
  show decode [0xB8] = .ok (.clv, []) from rfl
theorem nop : Statement (.nop) := fun _ =>
  show decode [0xEA] = .ok (.nop, []) from rfl
theorem jam02 : Statement (.jam02) := fun _ =>
  show decode [0x02] = .ok (.jam02, []) from rfl
theorem jam12 : Statement (.jam12) := fun _ =>
  show decode [0x12] = .ok (.jam12, []) from rfl
theorem jam22 : Statement (.jam22) := fun _ =>
  show decode [0x22] = .ok (.jam22, []) from rfl
theorem jam32 : Statement (.jam32) := fun _ =>
  show decode [0x32] = .ok (.jam32, []) from rfl
theorem jam42 : Statement (.jam42) := fun _ =>
  show decode [0x42] = .ok (.jam42, []) from rfl
theorem jam52 : Statement (.jam52) := fun _ =>
  show decode [0x52] = .ok (.jam52, []) from rfl
theorem jam62 : Statement (.jam62) := fun _ =>
  show decode [0x62] = .ok (.jam62, []) from rfl
theorem jam72 : Statement (.jam72) := fun _ =>
  show decode [0x72] = .ok (.jam72, []) from rfl
theorem jam92 : Statement (.jam92) := fun _ =>
  show decode [0x92] = .ok (.jam92, []) from rfl
theorem jamB2 : Statement (.jamB2) := fun _ =>
  show decode [0xB2] = .ok (.jamB2, []) from rfl
theorem jamD2 : Statement (.jamD2) := fun _ =>
  show decode [0xD2] = .ok (.jamD2, []) from rfl
theorem jamF2 : Statement (.jamF2) := fun _ =>
  show decode [0xF2] = .ok (.jamF2, []) from rfl

/-- The law for every instruction. -/
theorem all : (i : Instr) → Statement i
  | .ldaImm v => ldaImm v
  | .ldaZp b => ldaZp b
  | .ldaZpx b => ldaZpx b
  | .ldaAbs w => ldaAbs w
  | .ldaAbx w => ldaAbx w
  | .ldaAby w => ldaAby w
  | .ldaIzx b => ldaIzx b
  | .ldaIzy b => ldaIzy b
  | .ldxImm v => ldxImm v
  | .ldxZp b => ldxZp b
  | .ldxZpy b => ldxZpy b
  | .ldxAbs w => ldxAbs w
  | .ldxAby w => ldxAby w
  | .ldyImm v => ldyImm v
  | .ldyZp b => ldyZp b
  | .ldyZpx b => ldyZpx b
  | .ldyAbs w => ldyAbs w
  | .ldyAbx w => ldyAbx w
  | .staZp b => staZp b
  | .staZpx b => staZpx b
  | .staAbs w => staAbs w
  | .staAbx w => staAbx w
  | .staAby w => staAby w
  | .staIzx b => staIzx b
  | .staIzy b => staIzy b
  | .stxZp b => stxZp b
  | .stxZpy b => stxZpy b
  | .stxAbs w => stxAbs w
  | .styZp b => styZp b
  | .styZpx b => styZpx b
  | .styAbs w => styAbs w
  | .tax => tax
  | .tay => tay
  | .txa => txa
  | .tya => tya
  | .tsx => tsx
  | .txs => txs
  | .pha => pha
  | .php => php
  | .pla => pla
  | .plp => plp
  | .adcImm v => adcImm v
  | .adcZp b => adcZp b
  | .adcZpx b => adcZpx b
  | .adcAbs w => adcAbs w
  | .adcAbx w => adcAbx w
  | .adcAby w => adcAby w
  | .adcIzx b => adcIzx b
  | .adcIzy b => adcIzy b
  | .sbcImm v => sbcImm v
  | .sbcZp b => sbcZp b
  | .sbcZpx b => sbcZpx b
  | .sbcAbs w => sbcAbs w
  | .sbcAbx w => sbcAbx w
  | .sbcAby w => sbcAby w
  | .sbcIzx b => sbcIzx b
  | .sbcIzy b => sbcIzy b
  | .andImm v => andImm v
  | .andZp b => andZp b
  | .andZpx b => andZpx b
  | .andAbs w => andAbs w
  | .andAbx w => andAbx w
  | .andAby w => andAby w
  | .andIzx b => andIzx b
  | .andIzy b => andIzy b
  | .oraImm v => oraImm v
  | .oraZp b => oraZp b
  | .oraZpx b => oraZpx b
  | .oraAbs w => oraAbs w
  | .oraAbx w => oraAbx w
  | .oraAby w => oraAby w
  | .oraIzx b => oraIzx b
  | .oraIzy b => oraIzy b
  | .eorImm v => eorImm v
  | .eorZp b => eorZp b
  | .eorZpx b => eorZpx b
  | .eorAbs w => eorAbs w
  | .eorAbx w => eorAbx w
  | .eorAby w => eorAby w
  | .eorIzx b => eorIzx b
  | .eorIzy b => eorIzy b
  | .bitZp b => bitZp b
  | .bitAbs w => bitAbs w
  | .cmpImm v => cmpImm v
  | .cmpZp b => cmpZp b
  | .cmpZpx b => cmpZpx b
  | .cmpAbs w => cmpAbs w
  | .cmpAbx w => cmpAbx w
  | .cmpAby w => cmpAby w
  | .cmpIzx b => cmpIzx b
  | .cmpIzy b => cmpIzy b
  | .cpxImm v => cpxImm v
  | .cpxZp b => cpxZp b
  | .cpxAbs w => cpxAbs w
  | .cpyImm v => cpyImm v
  | .cpyZp b => cpyZp b
  | .cpyAbs w => cpyAbs w
  | .incZp b => incZp b
  | .incZpx b => incZpx b
  | .incAbs w => incAbs w
  | .incAbx w => incAbx w
  | .decZp b => decZp b
  | .decZpx b => decZpx b
  | .decAbs w => decAbs w
  | .decAbx w => decAbx w
  | .inx => inx
  | .iny => iny
  | .dex => dex
  | .dey => dey
  | .aslAcc => aslAcc
  | .aslZp b => aslZp b
  | .aslZpx b => aslZpx b
  | .aslAbs w => aslAbs w
  | .aslAbx w => aslAbx w
  | .lsrAcc => lsrAcc
  | .lsrZp b => lsrZp b
  | .lsrZpx b => lsrZpx b
  | .lsrAbs w => lsrAbs w
  | .lsrAbx w => lsrAbx w
  | .rolAcc => rolAcc
  | .rolZp b => rolZp b
  | .rolZpx b => rolZpx b
  | .rolAbs w => rolAbs w
  | .rolAbx w => rolAbx w
  | .rorAcc => rorAcc
  | .rorZp b => rorZp b
  | .rorZpx b => rorZpx b
  | .rorAbs w => rorAbs w
  | .rorAbx w => rorAbx w
  | .jmpAbs w => jmpAbs w
  | .jmpInd w => jmpInd w
  | .jsr w => jsr w
  | .rts => rts
  | .brk => brk
  | .rti => rti
  | .bcc d => bcc d
  | .bcs d => bcs d
  | .beq d => beq d
  | .bne d => bne d
  | .bmi d => bmi d
  | .bpl d => bpl d
  | .bvc d => bvc d
  | .bvs d => bvs d
  | .clc => clc
  | .sec => sec
  | .cli => cli
  | .sei => sei
  | .cld => cld
  | .sed => sed
  | .clv => clv
  | .nop => nop
  | .jam02 => jam02
  | .jam12 => jam12
  | .jam22 => jam22
  | .jam32 => jam32
  | .jam42 => jam42
  | .jam52 => jam52
  | .jam62 => jam62
  | .jam72 => jam72
  | .jam92 => jam92
  | .jamB2 => jamB2
  | .jamD2 => jamD2
  | .jamF2 => jamF2

end RoundTrip

end Sys2Proof.Laws
end

