-- ==== Sys2Proof/Laws/Bits.lean ====
section
/-! SUPPORT. The bytes of an address, as numbers. -/

namespace Sys2Proof

theorem toNat_join (h l : Byte) : (join h l).toNat = h.toNat * 256 + l.toNat := by
  have : l.toNat < 2 ^ 8 := l.isLt
  simp only [join, BitVec.toNat_append, Nat.shiftLeft_eq]
  rw [← Nat.shiftLeft_eq, ← Nat.shiftLeft_add_eq_or_of_lt this, Nat.shiftLeft_eq]

theorem toNat_lo (w : Word) : (lo w).toNat = w.toNat % 256 := by simp [lo]

theorem toNat_hi (w : Word) : (hi w).toNat = w.toNat / 256 := by
  have := w.isLt
  simp only [hi, BitVec.extractLsb'_toNat, Nat.shiftRight_eq_div_pow]
  omega

/-- A zero-page address is its byte zero-extended (R68). -/
theorem join_zero (b : Byte) : join 0 b = b.setWidth 16 := by
  apply BitVec.eq_of_toNat_eq
  have := b.isLt
  rw [toNat_join, BitVec.toNat_setWidth]
  simp; omega

@[simp] theorem hi_join (h l : Byte) : hi (join h l) = h := by
  apply BitVec.eq_of_toNat_eq
  have := l.isLt
  rw [toNat_hi, toNat_join]; omega

@[simp] theorem lo_join (h l : Byte) : lo (join h l) = l := by
  apply BitVec.eq_of_toNat_eq
  have := l.isLt
  rw [toNat_lo, toNat_join]; omega

/-- `addr & 0x07FF` is the remainder modulo 0x800 (R34). -/
theorem toNat_and_07FF (a : Word) : (a &&& 0x07FF).toNat = a.toNat % 0x800 := by
  rw [BitVec.toNat_and]
  exact Nat.and_two_pow_sub_one_eq_mod a.toNat 11

/-- `addr & 0x0007` is the remainder modulo 8 (R34). -/
theorem toNat_and_0007 (a : Word) : (a &&& 0x0007).toNat = a.toNat % 8 := by
  rw [BitVec.toNat_and]
  exact Nat.and_two_pow_sub_one_eq_mod a.toNat 3

end Sys2Proof
end

