-- ==== Sys2Proof/Laws/Memory.lean ====
section
/-! SUPPORT. Byte storage: reading after writing, and that writing keeps the canonical form. -/

namespace Sys2Proof.Machine

@[simp] theorem Memory.read_nil (k : Nat) : Memory.read [] k = unlistedByte := rfl

theorem Memory.read_erase_same (m : Memory) (k : Nat) : (m.erase k).read k = unlistedByte := by
  induction m with
  | nil => rfl
  | cons c rest ih =>
    obtain ⟨a, b⟩ := c
    by_cases h : a = k
    · simpa [Memory.erase, h] using ih
    · simp only [Memory.erase, List.filter_cons, bne_iff_ne, ne_eq, h, not_false_eq_true, if_true, Memory.read, if_false]
      exact ih

theorem Memory.read_erase_other (m : Memory) {j k : Nat} (h : j ≠ k) : (m.erase k).read j = m.read j := by
  induction m with
  | nil => rfl
  | cons c rest ih =>
    obtain ⟨a, b⟩ := c
    by_cases ha : a = k
    · have : ¬ k = j := fun e => h e.symm
      simpa [Memory.erase, Memory.read, ha, this] using ih
    · simp only [Memory.erase, List.filter_cons, bne_iff_ne, ne_eq, ha, not_false_eq_true, if_true, Memory.read]
      split
      · rfl
      · exact ih

theorem Memory.read_insert_other (m : Memory) {j k : Nat} (b : Byte) (h : j ≠ k) :
    (m.insert k b).read j = m.read j := by
  induction m with
  | nil => simp [Memory.insert, Memory.read, Ne.symm h]
  | cons c rest ih =>
    obtain ⟨a, v⟩ := c
    simp only [Memory.insert]
    split
    · simp [Memory.read, Ne.symm h]
    · simp [Memory.read, ih]

theorem Memory.read_insert_same (m : Memory) (k : Nat) (b : Byte) (h : ∀ c ∈ m, c.1 ≠ k) :
    (m.insert k b).read k = b := by
  induction m with
  | nil => simp [Memory.insert, Memory.read]
  | cons c rest ih =>
    obtain ⟨a, v⟩ := c
    simp only [Memory.insert]
    split
    · simp [Memory.read]
    · have : a ≠ k := h (a, v) (by simp)
      simp [Memory.read, this, ih fun c hc => h c (by simp [hc])]

theorem Memory.keys_erase {m : Memory} {k : Nat} {c : Host.Cell} (h : c ∈ m.erase k) : c ∈ m ∧ c.1 ≠ k := by
  simpa [Memory.erase] using h

theorem Memory.mem_insert {m : Memory} {k : Nat} {b : Byte} {c : Host.Cell} (h : c ∈ m.insert k b) :
    c = (k, b) ∨ c ∈ m := by
  induction m with
  | nil => simpa [Memory.insert] using h
  | cons d rest ih =>
    obtain ⟨a, v⟩ := d
    simp only [Memory.insert] at h
    split at h
    · simpa using h
    · rcases List.mem_cons.mp h with rfl | h
      · simp
      · rcases ih h with h | h <;> simp [h]

/-- A read after a write to the same key gives the byte written. -/
@[simp] theorem Memory.read_write_same (m : Memory) (k : Nat) (b : Byte) : (m.write k b).read k = b := by
  unfold Memory.write
  split
  · next h => rw [Memory.read_erase_same, h]
  · exact Memory.read_insert_same _ _ _ fun c hc => (Memory.keys_erase hc).2

/-- A write leaves every other key alone. -/
theorem Memory.read_write_other (m : Memory) {j k : Nat} (b : Byte) (h : j ≠ k) : (m.write k b).read j = m.read j := by
  unfold Memory.write
  split
  · exact Memory.read_erase_other m h
  · rw [Memory.read_insert_other _ b h, Memory.read_erase_other m h]

theorem Memory.wf_erase {m : Memory} (h : m.wf) (k : Nat) : (m.erase k).wf :=
  ⟨h.1.filter _, fun c hc => h.2 c (Memory.keys_erase hc).1⟩

theorem Memory.wf_insert {m : Memory} (h : m.wf) {k : Nat} {b : Byte} (hb : b ≠ unlistedByte)
    (hk : ∀ c ∈ m, c.1 ≠ k) : (m.insert k b).wf := by
  induction m with
  | nil => simp [Memory.insert, Memory.wf, hb]
  | cons d rest ih =>
    obtain ⟨a, v⟩ := d
    obtain ⟨hs, hz⟩ := h
    rw [List.pairwise_cons] at hs
    have hak : a ≠ k := hk (a, v) (by simp)
    simp only [Memory.insert]
    split
    · next hlt =>
      refine ⟨List.pairwise_cons.mpr ⟨fun c hc => ?_, List.pairwise_cons.mpr hs⟩, fun c hc => ?_⟩
      · rcases List.mem_cons.mp hc with rfl | hc
        · exact hlt
        · exact Nat.lt_trans hlt (hs.1 c hc)
      · rcases List.mem_cons.mp hc with rfl | hc
        · exact hb
        · exact hz c hc
    · next hge =>
      obtain ⟨ih1, ih2⟩ := ih ⟨hs.2, fun c hc => hz c (by simp [hc])⟩ fun c hc => hk c (by simp [hc])
      refine ⟨List.pairwise_cons.mpr ⟨fun c hc => ?_, ih1⟩, fun c hc => ?_⟩
      · rcases Memory.mem_insert hc with rfl | hc
        · show a < k; omega
        · exact hs.1 c hc
      · rcases List.mem_cons.mp hc with rfl | hc
        · exact hz (a, v) (by simp)
        · exact ih2 c hc

/-- Every write keeps the canonical form. -/
theorem Memory.wf_write {m : Memory} (h : m.wf) (k : Nat) (b : Byte) : (m.write k b).wf := by
  unfold Memory.write
  split
  · exact Memory.wf_erase h k
  · next hb => exact Memory.wf_insert (Memory.wf_erase h k) hb fun c hc => (Memory.keys_erase hc).2

/-- A write lists no key but its own and those listed before. -/
theorem Memory.keys_write {m : Memory} {k : Nat} {b : Byte} {c : Host.Cell} (h : c ∈ m.write k b) :
    c.1 = k ∨ c ∈ m := by
  unfold Memory.write at h
  split at h
  · exact .inr (Memory.keys_erase h).1
  · rcases Memory.mem_insert h with rfl | h
    · exact .inl rfl
    · exact .inr (Memory.keys_erase h).1

end Sys2Proof.Machine
end

