-- ==== Sys2Proof/Laws/Cart.lean ====
section
/-! SUPPORT. The cartridge view: everything a read and a write of it can do. -/

namespace Sys2Proof.Machine

/-- A read of a cartridge of windows answers the byte it holds there, and changes nothing (R42). -/
theorem Cart.read_windows (ws : List CartWindow) (a : Word) :
    (Cart.windows ws).read a = ((Cart.windows ws).peek a).map (·, .windows ws) := rfl

/-- A read that is answered leaves a cartridge of windows as it was, and its images canonical (R42, R49). -/
theorem Cart.read_frame {c d : Cart} {a : Word} {b : Byte} (h : c.read a = some (b, d)) :
    (∀ ws, c = .windows ws → d = c ∧ c.peek a = some b) ∧ (∀ x, d.peek x = c.peek x) ∧ (c.wf → d.wf) := by
  cases c with
  | windows ws =>
    simp only [read_windows, Option.map_eq_some_iff, Prod.mk.injEq] at h
    obtain ⟨v, hv, rfl, rfl⟩ := h
    exact ⟨fun _ _ => ⟨rfl, hv⟩, fun _ => rfl, id⟩
  | free k =>
    simp only [read, Option.map_eq_some_iff, Prod.mk.injEq] at h
    obtain ⟨_, -, -, rfl⟩ := h
    exact ⟨fun _ e => Cart.noConfusion e, fun _ => rfl, id⟩

/-- An answer to a write keeps the window's range, size and modes; only its image can change, at one offset. -/
theorem CartWindow.write_frame {w u : CartWindow} {a : Word} {v : Byte} (h : w.write a v = some u) :
    u = { w with image := u.image } ∧ (u.image = w.image ∨ u.image = w.image.write (w.offset a) v) := by
  unfold CartWindow.write at h
  split at h
  · cases h
  · cases h; exact ⟨rfl, .inl rfl⟩
  · cases h; exact ⟨rfl, .inr rfl⟩

/-- A write leaves every byte of a cartridge's windows but the one it reaches. -/
theorem writeWindows_peek_other {a b : Word} {v : Byte} {ws us : List CartWindow} (h : writeWindows a v ws = some us)
    (hb : sameWindowByte a b ws = false) : (Cart.windows us).peek b = (Cart.windows ws).peek b := by
  induction ws generalizing us with
  | nil => cases h
  | cons w ws ih =>
    simp only [writeWindows] at h
    split at h
    · next ha =>
      simp only [Option.map_eq_some_iff] at h
      obtain ⟨u, hu, rfl⟩ := h
      obtain ⟨e, himg⟩ := CartWindow.write_frame hu
      have hc : u.covers b = w.covers b := by rw [e]; rfl
      have ho : u.offset b = w.offset b := by rw [e]; rfl
      have hr : u.readable = w.readable := by rw [e]
      simp only [Cart.peek, List.find?_cons, hc]
      cases hbc : w.covers b with
      | false => rfl
      | true =>
        simp only [sameWindowByte, ha, hbc, beq_eq_false_iff_ne, ne_eq] at hb
        simp only [hr, ho]
        rcases himg with himg | himg <;> rw [himg]
        rw [Memory.read_write_other _ _ fun e => hb e.symm]
    · next ha =>
      simp only [Option.map_eq_some_iff] at h
      obtain ⟨u, hu, rfl⟩ := h
      cases hbc : w.covers b with
      | true => simp only [Cart.peek, List.find?_cons, hbc]
      | false =>
        simp only [sameWindowByte, ha, hbc] at hb
        have := ih hu hb
        simpa only [Cart.peek, List.find?_cons, hbc] using this

/-- A byte stored in a window that can be read is read back. -/
theorem writeWindows_peek_same {a : Word} {v : Byte} {ws us : List CartWindow} {w : CartWindow}
    (h : writeWindows a v ws = some us) (hw : ws.find? (·.covers a) = some w) (hr : w.readable = true)
    (hs : w.onWrite = .stored) : (Cart.windows us).peek a = some v := by
  induction ws generalizing us with
  | nil => cases h
  | cons x ws ih =>
    cases ha : x.covers a with
    | true =>
      simp only [List.find?_cons, ha, Option.some.injEq] at hw
      subst hw
      simp only [writeWindows, ha, if_true, Option.map_eq_some_iff] at h
      obtain ⟨u, hu, rfl⟩ := h
      have hc : u.covers a = true := by rw [← ha, (CartWindow.write_frame hu).1]; rfl
      have ho : u.offset a = x.offset a := by rw [(CartWindow.write_frame hu).1]; rfl
      have hr' : u.readable = true := by rw [← hr, (CartWindow.write_frame hu).1]
      have hi : u.image = x.image.write (x.offset a) v := by
        simp only [CartWindow.write, hs, Option.some.injEq] at hu; rw [← hu]
      simp only [Cart.peek, List.find?_cons, hc, hr', if_true, ho, hi, Memory.read_write_same]
    | false =>
      simp only [List.find?_cons, ha] at hw
      simp only [writeWindows, ha, Bool.false_eq_true, if_false, Option.map_eq_some_iff] at h
      obtain ⟨u, hu, rfl⟩ := h
      have := ih hu hw
      simpa only [Cart.peek, List.find?_cons, ha] using this

@[simp] theorem Cart.images_windows (ws : List CartWindow) : (Cart.windows ws).images = ws.map CartWindow.image := rfl

@[simp] theorem Cart.images_free (k : Nat) : (Cart.free k).images = [] := rfl

/-- A write keeps every image canonical. -/
theorem writeWindows_wf {a : Word} {v : Byte} {ws us : List CartWindow} (h : writeWindows a v ws = some us)
    (hw : (Cart.windows ws).wf) : (Cart.windows us).wf := by
  induction ws generalizing us with
  | nil => cases h
  | cons w ws ih =>
    have h1 : w.image.wf := hw w.image (by simp)
    have h2 : (Cart.windows ws).wf := fun m hm => hw m (List.mem_cons_of_mem _ hm)
    simp only [writeWindows] at h
    split at h
    · simp only [Option.map_eq_some_iff] at h
      obtain ⟨u, hu, rfl⟩ := h
      intro m hm
      rcases List.mem_cons.mp hm with rfl | hm
      · rcases (CartWindow.write_frame hu).2 with e | e <;> rw [e]
        · exact h1
        · exact Memory.wf_write h1 _ _
      · exact h2 m hm
    · simp only [Option.map_eq_some_iff] at h
      obtain ⟨u, hu, rfl⟩ := h
      intro m hm
      rcases List.mem_cons.mp hm with rfl | hm
      · exact h1
      · exact ih hu h2 m hm

/-- A cartridge all of whose windows ignore or refuse writes is never changed by one (R43). -/
theorem writeWindows_rom {a : Word} {v : Byte} {ws us : List CartWindow} (h : writeWindows a v ws = some us)
    (hr : ∀ w ∈ ws, w.onWrite ≠ .stored) : us = ws := by
  induction ws generalizing us with
  | nil => cases h
  | cons w ws ih =>
    simp only [writeWindows] at h
    split at h
    · simp only [Option.map_eq_some_iff] at h
      obtain ⟨u, hu, rfl⟩ := h
      unfold CartWindow.write at hu
      split at hu
      · cases hu
      · cases hu; rfl
      · next hs => exact absurd hs (hr w (by simp))
    · simp only [Option.map_eq_some_iff] at h
      obtain ⟨u, hu, rfl⟩ := h
      rw [ih hu fun x hx => hr x (by simp [hx])]

/-- A write that is answered changes at most the byte it reaches, keeps every image canonical, and changes nothing where no
window stores (R36, R42, R43). -/
theorem Cart.write_frame {c d : Cart} {a : Word} {v : Byte} (h : c.write a v = some d) :
    (∀ b, c.sameByte a b = false → d.peek b = c.peek b) ∧ (c.wf → d.wf) ∧
    (∀ ws, c = .windows ws → (∀ w ∈ ws, w.onWrite ≠ .stored) → d = c) := by
  cases c with
  | windows ws =>
    simp only [write, Option.map_eq_some_iff] at h
    obtain ⟨us, hu, rfl⟩ := h
    refine ⟨fun b hb => writeWindows_peek_other hu hb, writeWindows_wf hu, fun xs e hr => ?_⟩
    cases e
    rw [writeWindows_rom hu hr]
  | free k =>
    simp only [write, Option.map_eq_some_iff] at h
    obtain ⟨_, -, rfl⟩ := h
    exact ⟨fun _ e => absurd e (by simp [sameByte]), id, fun _ e => Cart.noConfusion e⟩

/-- The windows of the reference cartridge store nothing (R43). -/
theorem Cart.reference_rom (p : Memory) (n : Nat) :
    ∃ ws, Cart.reference p n = .windows ws ∧ ∀ w ∈ ws, w.onWrite ≠ .stored :=
  ⟨_, rfl, by simp⟩

end Sys2Proof.Machine
end

