-- ==== Sys2Proof/Laws/State.lean ====
section
/-! SUPPORT. One lemma per field per register update, so that no later proof unfolds a record update. -/

namespace Sys2Proof.Machine

@[simp] theorem State.setA_a (s : State) (v) : (s.setA v).a = v := rfl
@[simp] theorem State.setA_x (s : State) (v) : (s.setA v).x = s.x := rfl
@[simp] theorem State.setA_y (s : State) (v) : (s.setA v).y = s.y := rfl
@[simp] theorem State.setA_sp (s : State) (v) : (s.setA v).sp = s.sp := rfl
@[simp] theorem State.setA_pc (s : State) (v) : (s.setA v).pc = s.pc := rfl
@[simp] theorem State.setA_flags (s : State) (v) : (s.setA v).flags = s.flags := rfl
@[simp] theorem State.setA_resetPending (s : State) (v) : (s.setA v).resetPending = s.resetPending := rfl
@[simp] theorem State.setA_nmiPending (s : State) (v) : (s.setA v).nmiPending = s.nmiPending := rfl
@[simp] theorem State.setA_halted (s : State) (v) : (s.setA v).halted = s.halted := rfl
@[simp] theorem State.setA_fault (s : State) (v) : (s.setA v).fault = s.fault := rfl
@[simp] theorem State.setA_mem (s : State) (v) : (s.setA v).mem = s.mem := rfl
@[simp] theorem State.setA_io4017w (s : State) (v) : (s.setA v).io4017w = s.io4017w := rfl
@[simp] theorem State.setA_video (s : State) (v) : (s.setA v).video = s.video := rfl
@[simp] theorem State.setA_pad1 (s : State) (v) : (s.setA v).pad1 = s.pad1 := rfl
@[simp] theorem State.setA_pad2 (s : State) (v) : (s.setA v).pad2 = s.pad2 := rfl
@[simp] theorem State.setA_strobe (s : State) (v) : (s.setA v).strobe = s.strobe := rfl
@[simp] theorem State.setA_cart (s : State) (v) : (s.setA v).cart = s.cart := rfl
@[simp] theorem State.setA_host (s : State) (v) : (s.setA v).host = s.host := rfl
@[simp] theorem State.setA_hostScript (s : State) (v) : (s.setA v).hostScript = s.hostScript := rfl
@[simp] theorem State.setA_cycles (s : State) (v) : (s.setA v).cycles = s.cycles := rfl
@[simp] theorem State.setA_draws (s : State) (v) : (s.setA v).draws = s.draws := rfl
@[simp] theorem State.setA_vramLog (s : State) (v) : (s.setA v).vramLog = s.vramLog := rfl

@[simp] theorem State.setX_a (s : State) (v) : (s.setX v).a = s.a := rfl
@[simp] theorem State.setX_x (s : State) (v) : (s.setX v).x = v := rfl
@[simp] theorem State.setX_y (s : State) (v) : (s.setX v).y = s.y := rfl
@[simp] theorem State.setX_sp (s : State) (v) : (s.setX v).sp = s.sp := rfl
@[simp] theorem State.setX_pc (s : State) (v) : (s.setX v).pc = s.pc := rfl
@[simp] theorem State.setX_flags (s : State) (v) : (s.setX v).flags = s.flags := rfl
@[simp] theorem State.setX_resetPending (s : State) (v) : (s.setX v).resetPending = s.resetPending := rfl
@[simp] theorem State.setX_nmiPending (s : State) (v) : (s.setX v).nmiPending = s.nmiPending := rfl
@[simp] theorem State.setX_halted (s : State) (v) : (s.setX v).halted = s.halted := rfl
@[simp] theorem State.setX_fault (s : State) (v) : (s.setX v).fault = s.fault := rfl
@[simp] theorem State.setX_mem (s : State) (v) : (s.setX v).mem = s.mem := rfl
@[simp] theorem State.setX_io4017w (s : State) (v) : (s.setX v).io4017w = s.io4017w := rfl
@[simp] theorem State.setX_video (s : State) (v) : (s.setX v).video = s.video := rfl
@[simp] theorem State.setX_pad1 (s : State) (v) : (s.setX v).pad1 = s.pad1 := rfl
@[simp] theorem State.setX_pad2 (s : State) (v) : (s.setX v).pad2 = s.pad2 := rfl
@[simp] theorem State.setX_strobe (s : State) (v) : (s.setX v).strobe = s.strobe := rfl
@[simp] theorem State.setX_cart (s : State) (v) : (s.setX v).cart = s.cart := rfl
@[simp] theorem State.setX_host (s : State) (v) : (s.setX v).host = s.host := rfl
@[simp] theorem State.setX_hostScript (s : State) (v) : (s.setX v).hostScript = s.hostScript := rfl
@[simp] theorem State.setX_cycles (s : State) (v) : (s.setX v).cycles = s.cycles := rfl
@[simp] theorem State.setX_draws (s : State) (v) : (s.setX v).draws = s.draws := rfl
@[simp] theorem State.setX_vramLog (s : State) (v) : (s.setX v).vramLog = s.vramLog := rfl

@[simp] theorem State.setY_a (s : State) (v) : (s.setY v).a = s.a := rfl
@[simp] theorem State.setY_x (s : State) (v) : (s.setY v).x = s.x := rfl
@[simp] theorem State.setY_y (s : State) (v) : (s.setY v).y = v := rfl
@[simp] theorem State.setY_sp (s : State) (v) : (s.setY v).sp = s.sp := rfl
@[simp] theorem State.setY_pc (s : State) (v) : (s.setY v).pc = s.pc := rfl
@[simp] theorem State.setY_flags (s : State) (v) : (s.setY v).flags = s.flags := rfl
@[simp] theorem State.setY_resetPending (s : State) (v) : (s.setY v).resetPending = s.resetPending := rfl
@[simp] theorem State.setY_nmiPending (s : State) (v) : (s.setY v).nmiPending = s.nmiPending := rfl
@[simp] theorem State.setY_halted (s : State) (v) : (s.setY v).halted = s.halted := rfl
@[simp] theorem State.setY_fault (s : State) (v) : (s.setY v).fault = s.fault := rfl
@[simp] theorem State.setY_mem (s : State) (v) : (s.setY v).mem = s.mem := rfl
@[simp] theorem State.setY_io4017w (s : State) (v) : (s.setY v).io4017w = s.io4017w := rfl
@[simp] theorem State.setY_video (s : State) (v) : (s.setY v).video = s.video := rfl
@[simp] theorem State.setY_pad1 (s : State) (v) : (s.setY v).pad1 = s.pad1 := rfl
@[simp] theorem State.setY_pad2 (s : State) (v) : (s.setY v).pad2 = s.pad2 := rfl
@[simp] theorem State.setY_strobe (s : State) (v) : (s.setY v).strobe = s.strobe := rfl
@[simp] theorem State.setY_cart (s : State) (v) : (s.setY v).cart = s.cart := rfl
@[simp] theorem State.setY_host (s : State) (v) : (s.setY v).host = s.host := rfl
@[simp] theorem State.setY_hostScript (s : State) (v) : (s.setY v).hostScript = s.hostScript := rfl
@[simp] theorem State.setY_cycles (s : State) (v) : (s.setY v).cycles = s.cycles := rfl
@[simp] theorem State.setY_draws (s : State) (v) : (s.setY v).draws = s.draws := rfl
@[simp] theorem State.setY_vramLog (s : State) (v) : (s.setY v).vramLog = s.vramLog := rfl

@[simp] theorem State.setSp_a (s : State) (v) : (s.setSp v).a = s.a := rfl
@[simp] theorem State.setSp_x (s : State) (v) : (s.setSp v).x = s.x := rfl
@[simp] theorem State.setSp_y (s : State) (v) : (s.setSp v).y = s.y := rfl
@[simp] theorem State.setSp_sp (s : State) (v) : (s.setSp v).sp = v := rfl
@[simp] theorem State.setSp_pc (s : State) (v) : (s.setSp v).pc = s.pc := rfl
@[simp] theorem State.setSp_flags (s : State) (v) : (s.setSp v).flags = s.flags := rfl
@[simp] theorem State.setSp_resetPending (s : State) (v) : (s.setSp v).resetPending = s.resetPending := rfl
@[simp] theorem State.setSp_nmiPending (s : State) (v) : (s.setSp v).nmiPending = s.nmiPending := rfl
@[simp] theorem State.setSp_halted (s : State) (v) : (s.setSp v).halted = s.halted := rfl
@[simp] theorem State.setSp_fault (s : State) (v) : (s.setSp v).fault = s.fault := rfl
@[simp] theorem State.setSp_mem (s : State) (v) : (s.setSp v).mem = s.mem := rfl
@[simp] theorem State.setSp_io4017w (s : State) (v) : (s.setSp v).io4017w = s.io4017w := rfl
@[simp] theorem State.setSp_video (s : State) (v) : (s.setSp v).video = s.video := rfl
@[simp] theorem State.setSp_pad1 (s : State) (v) : (s.setSp v).pad1 = s.pad1 := rfl
@[simp] theorem State.setSp_pad2 (s : State) (v) : (s.setSp v).pad2 = s.pad2 := rfl
@[simp] theorem State.setSp_strobe (s : State) (v) : (s.setSp v).strobe = s.strobe := rfl
@[simp] theorem State.setSp_cart (s : State) (v) : (s.setSp v).cart = s.cart := rfl
@[simp] theorem State.setSp_host (s : State) (v) : (s.setSp v).host = s.host := rfl
@[simp] theorem State.setSp_hostScript (s : State) (v) : (s.setSp v).hostScript = s.hostScript := rfl
@[simp] theorem State.setSp_cycles (s : State) (v) : (s.setSp v).cycles = s.cycles := rfl
@[simp] theorem State.setSp_draws (s : State) (v) : (s.setSp v).draws = s.draws := rfl
@[simp] theorem State.setSp_vramLog (s : State) (v) : (s.setSp v).vramLog = s.vramLog := rfl

@[simp] theorem State.setPc_a (s : State) (v) : (s.setPc v).a = s.a := rfl
@[simp] theorem State.setPc_x (s : State) (v) : (s.setPc v).x = s.x := rfl
@[simp] theorem State.setPc_y (s : State) (v) : (s.setPc v).y = s.y := rfl
@[simp] theorem State.setPc_sp (s : State) (v) : (s.setPc v).sp = s.sp := rfl
@[simp] theorem State.setPc_pc (s : State) (v) : (s.setPc v).pc = v := rfl
@[simp] theorem State.setPc_flags (s : State) (v) : (s.setPc v).flags = s.flags := rfl
@[simp] theorem State.setPc_resetPending (s : State) (v) : (s.setPc v).resetPending = s.resetPending := rfl
@[simp] theorem State.setPc_nmiPending (s : State) (v) : (s.setPc v).nmiPending = s.nmiPending := rfl
@[simp] theorem State.setPc_halted (s : State) (v) : (s.setPc v).halted = s.halted := rfl
@[simp] theorem State.setPc_fault (s : State) (v) : (s.setPc v).fault = s.fault := rfl
@[simp] theorem State.setPc_mem (s : State) (v) : (s.setPc v).mem = s.mem := rfl
@[simp] theorem State.setPc_io4017w (s : State) (v) : (s.setPc v).io4017w = s.io4017w := rfl
@[simp] theorem State.setPc_video (s : State) (v) : (s.setPc v).video = s.video := rfl
@[simp] theorem State.setPc_pad1 (s : State) (v) : (s.setPc v).pad1 = s.pad1 := rfl
@[simp] theorem State.setPc_pad2 (s : State) (v) : (s.setPc v).pad2 = s.pad2 := rfl
@[simp] theorem State.setPc_strobe (s : State) (v) : (s.setPc v).strobe = s.strobe := rfl
@[simp] theorem State.setPc_cart (s : State) (v) : (s.setPc v).cart = s.cart := rfl
@[simp] theorem State.setPc_host (s : State) (v) : (s.setPc v).host = s.host := rfl
@[simp] theorem State.setPc_hostScript (s : State) (v) : (s.setPc v).hostScript = s.hostScript := rfl
@[simp] theorem State.setPc_cycles (s : State) (v) : (s.setPc v).cycles = s.cycles := rfl
@[simp] theorem State.setPc_draws (s : State) (v) : (s.setPc v).draws = s.draws := rfl
@[simp] theorem State.setPc_vramLog (s : State) (v) : (s.setPc v).vramLog = s.vramLog := rfl

@[simp] theorem State.setFlags_a (s : State) (v) : (s.setFlags v).a = s.a := rfl
@[simp] theorem State.setFlags_x (s : State) (v) : (s.setFlags v).x = s.x := rfl
@[simp] theorem State.setFlags_y (s : State) (v) : (s.setFlags v).y = s.y := rfl
@[simp] theorem State.setFlags_sp (s : State) (v) : (s.setFlags v).sp = s.sp := rfl
@[simp] theorem State.setFlags_pc (s : State) (v) : (s.setFlags v).pc = s.pc := rfl
@[simp] theorem State.setFlags_flags (s : State) (v) : (s.setFlags v).flags = v := rfl
@[simp] theorem State.setFlags_resetPending (s : State) (v) : (s.setFlags v).resetPending = s.resetPending := rfl
@[simp] theorem State.setFlags_nmiPending (s : State) (v) : (s.setFlags v).nmiPending = s.nmiPending := rfl
@[simp] theorem State.setFlags_halted (s : State) (v) : (s.setFlags v).halted = s.halted := rfl
@[simp] theorem State.setFlags_fault (s : State) (v) : (s.setFlags v).fault = s.fault := rfl
@[simp] theorem State.setFlags_mem (s : State) (v) : (s.setFlags v).mem = s.mem := rfl
@[simp] theorem State.setFlags_io4017w (s : State) (v) : (s.setFlags v).io4017w = s.io4017w := rfl
@[simp] theorem State.setFlags_video (s : State) (v) : (s.setFlags v).video = s.video := rfl
@[simp] theorem State.setFlags_pad1 (s : State) (v) : (s.setFlags v).pad1 = s.pad1 := rfl
@[simp] theorem State.setFlags_pad2 (s : State) (v) : (s.setFlags v).pad2 = s.pad2 := rfl
@[simp] theorem State.setFlags_strobe (s : State) (v) : (s.setFlags v).strobe = s.strobe := rfl
@[simp] theorem State.setFlags_cart (s : State) (v) : (s.setFlags v).cart = s.cart := rfl
@[simp] theorem State.setFlags_host (s : State) (v) : (s.setFlags v).host = s.host := rfl
@[simp] theorem State.setFlags_hostScript (s : State) (v) : (s.setFlags v).hostScript = s.hostScript := rfl
@[simp] theorem State.setFlags_cycles (s : State) (v) : (s.setFlags v).cycles = s.cycles := rfl
@[simp] theorem State.setFlags_draws (s : State) (v) : (s.setFlags v).draws = s.draws := rfl
@[simp] theorem State.setFlags_vramLog (s : State) (v) : (s.setFlags v).vramLog = s.vramLog := rfl

@[simp] theorem State.setMem_a (s : State) (v) : (s.setMem v).a = s.a := rfl
@[simp] theorem State.setMem_x (s : State) (v) : (s.setMem v).x = s.x := rfl
@[simp] theorem State.setMem_y (s : State) (v) : (s.setMem v).y = s.y := rfl
@[simp] theorem State.setMem_sp (s : State) (v) : (s.setMem v).sp = s.sp := rfl
@[simp] theorem State.setMem_pc (s : State) (v) : (s.setMem v).pc = s.pc := rfl
@[simp] theorem State.setMem_flags (s : State) (v) : (s.setMem v).flags = s.flags := rfl
@[simp] theorem State.setMem_resetPending (s : State) (v) : (s.setMem v).resetPending = s.resetPending := rfl
@[simp] theorem State.setMem_nmiPending (s : State) (v) : (s.setMem v).nmiPending = s.nmiPending := rfl
@[simp] theorem State.setMem_halted (s : State) (v) : (s.setMem v).halted = s.halted := rfl
@[simp] theorem State.setMem_fault (s : State) (v) : (s.setMem v).fault = s.fault := rfl
@[simp] theorem State.setMem_mem (s : State) (v) : (s.setMem v).mem = v := rfl
@[simp] theorem State.setMem_io4017w (s : State) (v) : (s.setMem v).io4017w = s.io4017w := rfl
@[simp] theorem State.setMem_video (s : State) (v) : (s.setMem v).video = s.video := rfl
@[simp] theorem State.setMem_pad1 (s : State) (v) : (s.setMem v).pad1 = s.pad1 := rfl
@[simp] theorem State.setMem_pad2 (s : State) (v) : (s.setMem v).pad2 = s.pad2 := rfl
@[simp] theorem State.setMem_strobe (s : State) (v) : (s.setMem v).strobe = s.strobe := rfl
@[simp] theorem State.setMem_cart (s : State) (v) : (s.setMem v).cart = s.cart := rfl
@[simp] theorem State.setMem_host (s : State) (v) : (s.setMem v).host = s.host := rfl
@[simp] theorem State.setMem_hostScript (s : State) (v) : (s.setMem v).hostScript = s.hostScript := rfl
@[simp] theorem State.setMem_cycles (s : State) (v) : (s.setMem v).cycles = s.cycles := rfl
@[simp] theorem State.setMem_draws (s : State) (v) : (s.setMem v).draws = s.draws := rfl
@[simp] theorem State.setMem_vramLog (s : State) (v) : (s.setMem v).vramLog = s.vramLog := rfl

@[simp] theorem State.setCycles_a (s : State) (v) : (s.setCycles v).a = s.a := rfl
@[simp] theorem State.setCycles_x (s : State) (v) : (s.setCycles v).x = s.x := rfl
@[simp] theorem State.setCycles_y (s : State) (v) : (s.setCycles v).y = s.y := rfl
@[simp] theorem State.setCycles_sp (s : State) (v) : (s.setCycles v).sp = s.sp := rfl
@[simp] theorem State.setCycles_pc (s : State) (v) : (s.setCycles v).pc = s.pc := rfl
@[simp] theorem State.setCycles_flags (s : State) (v) : (s.setCycles v).flags = s.flags := rfl
@[simp] theorem State.setCycles_resetPending (s : State) (v) : (s.setCycles v).resetPending = s.resetPending := rfl
@[simp] theorem State.setCycles_nmiPending (s : State) (v) : (s.setCycles v).nmiPending = s.nmiPending := rfl
@[simp] theorem State.setCycles_halted (s : State) (v) : (s.setCycles v).halted = s.halted := rfl
@[simp] theorem State.setCycles_fault (s : State) (v) : (s.setCycles v).fault = s.fault := rfl
@[simp] theorem State.setCycles_mem (s : State) (v) : (s.setCycles v).mem = s.mem := rfl
@[simp] theorem State.setCycles_io4017w (s : State) (v) : (s.setCycles v).io4017w = s.io4017w := rfl
@[simp] theorem State.setCycles_video (s : State) (v) : (s.setCycles v).video = s.video := rfl
@[simp] theorem State.setCycles_pad1 (s : State) (v) : (s.setCycles v).pad1 = s.pad1 := rfl
@[simp] theorem State.setCycles_pad2 (s : State) (v) : (s.setCycles v).pad2 = s.pad2 := rfl
@[simp] theorem State.setCycles_strobe (s : State) (v) : (s.setCycles v).strobe = s.strobe := rfl
@[simp] theorem State.setCycles_cart (s : State) (v) : (s.setCycles v).cart = s.cart := rfl
@[simp] theorem State.setCycles_host (s : State) (v) : (s.setCycles v).host = s.host := rfl
@[simp] theorem State.setCycles_hostScript (s : State) (v) : (s.setCycles v).hostScript = s.hostScript := rfl
@[simp] theorem State.setCycles_cycles (s : State) (v) : (s.setCycles v).cycles = v := rfl
@[simp] theorem State.setCycles_draws (s : State) (v) : (s.setCycles v).draws = s.draws := rfl
@[simp] theorem State.setCycles_vramLog (s : State) (v) : (s.setCycles v).vramLog = s.vramLog := rfl

@[simp] theorem State.advance_a (s : State) (n : Nat) : (s.advance n).a = s.a := rfl
@[simp] theorem State.advance_x (s : State) (n : Nat) : (s.advance n).x = s.x := rfl
@[simp] theorem State.advance_y (s : State) (n : Nat) : (s.advance n).y = s.y := rfl
@[simp] theorem State.advance_sp (s : State) (n : Nat) : (s.advance n).sp = s.sp := rfl
@[simp] theorem State.advance_flags (s : State) (n : Nat) : (s.advance n).flags = s.flags := rfl
@[simp] theorem State.advance_resetPending (s : State) (n : Nat) : (s.advance n).resetPending = s.resetPending := rfl
@[simp] theorem State.advance_nmiPending (s : State) (n : Nat) : (s.advance n).nmiPending = s.nmiPending := rfl
@[simp] theorem State.advance_halted (s : State) (n : Nat) : (s.advance n).halted = s.halted := rfl
@[simp] theorem State.advance_fault (s : State) (n : Nat) : (s.advance n).fault = s.fault := rfl
@[simp] theorem State.advance_mem (s : State) (n : Nat) : (s.advance n).mem = s.mem := rfl
@[simp] theorem State.advance_io4017w (s : State) (n : Nat) : (s.advance n).io4017w = s.io4017w := rfl
@[simp] theorem State.advance_video (s : State) (n : Nat) : (s.advance n).video = s.video := rfl
@[simp] theorem State.advance_pad1 (s : State) (n : Nat) : (s.advance n).pad1 = s.pad1 := rfl
@[simp] theorem State.advance_pad2 (s : State) (n : Nat) : (s.advance n).pad2 = s.pad2 := rfl
@[simp] theorem State.advance_strobe (s : State) (n : Nat) : (s.advance n).strobe = s.strobe := rfl
@[simp] theorem State.advance_cart (s : State) (n : Nat) : (s.advance n).cart = s.cart := rfl
@[simp] theorem State.advance_host (s : State) (n : Nat) : (s.advance n).host = s.host := rfl
@[simp] theorem State.advance_hostScript (s : State) (n : Nat) : (s.advance n).hostScript = s.hostScript := rfl
@[simp] theorem State.advance_cycles (s : State) (n : Nat) : (s.advance n).cycles = s.cycles := rfl
@[simp] theorem State.advance_draws (s : State) (n : Nat) : (s.advance n).draws = s.draws := rfl
@[simp] theorem State.advance_vramLog (s : State) (n : Nat) : (s.advance n).vramLog = s.vramLog := rfl
@[simp] theorem State.advance_pc (s : State) (n : Nat) : (s.advance n).pc = s.pc + BitVec.ofNat 16 n := rfl

end Sys2Proof.Machine
end

