-- ==== Sys2Proof/Laws/Router.lean ====
section
/-! SUPPORT. The router: where an address goes, and everything one bus access can do. -/

namespace Sys2Proof.Machine

/-! ### Res -/

@[simp] theorem Res.bind_ok {α β : Type} (v : α) (s : State) (f : α → State → Res β) :
    (Res.ok v s).bind f = f v s := rfl

@[simp] theorem Res.bind_unmapped {α β : Type} (a : Word) (s : State) (f : α → State → Res β) :
    (Res.unmapped a s : Res α).bind f = .unmapped a s := rfl

theorem Res.bind_eq_ok {α β : Type} {r : Res α} {f : α → State → Res β} {w : β} {t : State} :
    r.bind f = .ok w t ↔ ∃ v s, r = .ok v s ∧ f v s = .ok w t := by
  cases r <;> simp

theorem Res.bind_eq_unmapped {α β : Type} {r : Res α} {f : α → State → Res β} {a : Word} {t : State} :
    r.bind f = .unmapped a t ↔ r = .unmapped a t ∨ ∃ v s, r = .ok v s ∧ f v s = .unmapped a t := by
  cases r <;> simp

@[simp] theorem finish_ok (c : Nat) (s : State) : finish (.ok c s) = .next (s.setCycles c) := rfl

@[simp] theorem finish_unmapped (a : Word) (s : State) : finish (.unmapped a s) = raiseUnmapped a s := rfl

theorem finish_eq_next {r : Res Nat} {t : State} : finish r = .next t ↔ ∃ c s, r = .ok c s ∧ t = s.setCycles c := by
  cases r <;> simp [finish, raiseUnmapped, eq_comm]

/-! ### Regions -/

theorem route_ram {a : Word} (h : a.toNat ≤ 0x1FFF) : route a = .ram (a.toNat % 0x800) := by simp [route, h]

theorem route_vreg {a : Word} (h1 : 0x2000 ≤ a.toNat) (h2 : a.toNat ≤ 0x3FFF) :
    route a = .vreg (VReg.ofIndex (a.toNat % 8)) := by
  simp only [route]
  rw [if_neg (by omega), if_pos (by omega)]

theorem route_io {a : Word} (h1 : 0x4000 ≤ a.toNat) (h2 : a.toNat ≤ 0x4015) : route a = .io a.toNat := by
  simp only [route]
  rw [if_neg (by omega), if_neg (by omega), if_pos (by omega)]

theorem route_gap {a : Word} (h1 : 0x4018 ≤ a.toNat) (h2 : a.toNat ≤ 0x401F) : route a = .unmapped := by
  simp only [route]
  rw [if_neg (by omega), if_neg (by omega), if_neg (by omega), if_neg (by omega), if_neg (by omega),
    if_pos (by omega)]

theorem route_cart {a : Word} (h : 0x4020 ≤ a.toNat) : route a = .cart := by
  simp only [route]
  rw [if_neg (by omega), if_neg (by omega), if_neg (by omega), if_neg (by omega), if_neg (by omega),
    if_neg (by omega)]

theorem range_of_route_ram {a : Word} {i : Nat} (h : route a = .ram i) : i < 0x800 := by
  simp only [route] at h
  split at h
  · cases h; omega
  · split at h
    · cases h
    · split at h
      · cases h
      · split at h
        · cases h
        · split at h
          · cases h
          · split at h <;> cases h

theorem range_of_route_io {a : Word} {i : Nat} (h : route a = .io i) : 0x4000 ≤ i ∧ i ≤ 0x4015 := by
  simp only [route] at h
  split at h
  · cases h
  · split at h
    · cases h
    · split at h
      · cases h; omega
      · split at h
        · cases h
        · split at h
          · cases h
          · split at h <;> cases h

theorem range_of_route_unmapped {a : Word} (h : route a = .unmapped) : 0x4018 ≤ a.toNat ∧ a.toNat ≤ 0x401F := by
  simp only [route] at h
  split at h
  · cases h
  · split at h
    · cases h
    · split at h
      · cases h
      · split at h
        · cases h
        · split at h
          · cases h
          · split at h
            · omega
            · cases h

theorem range_of_route_cart {a : Word} (h : route a = .cart) : 0x4020 ≤ a.toNat := by
  simp only [route] at h
  split at h
  · cases h
  · split at h
    · cases h
    · split at h
      · cases h
      · split at h
        · cases h
        · split at h
          · cases h
          · split at h
            · cases h
            · omega

/-- The stack address reaches RAM at 0x100 + S (R45). -/
theorem route_stackAddr (sp : Byte) : route (stackAddr sp) = .ram (0x100 + sp.toNat) := by
  have := sp.isLt
  have e : (stackAddr sp).toNat = 0x100 + sp.toNat := by
    simp only [stackAddr, toNat_join]; simp
  rw [route_ram (by omega), e, Nat.mod_eq_of_lt (by omega)]

theorem route_zeroPage (b : Byte) : route (join 0 b) = .ram b.toNat := by
  have := b.isLt
  have e : (join 0 b).toNat = b.toNat := by rw [toNat_join]; simp
  rw [route_ram (by omega), e, Nat.mod_eq_of_lt (by omega)]

/-! ### One access -/

theorem memRead_ram {a : Word} {i : Nat} (h : route a = .ram i) (s : State) : memRead a s = .ok (s.mem.read i) s := by
  simp [memRead, h]

theorem memWrite_ram {a : Word} {i : Nat} (h : route a = .ram i) (v : Byte) (s : State) :
    memWrite a v s = .ok () (s.setMem (s.mem.write i v)) := by simp [memWrite, h]

theorem memRead_cart_some {a : Word} {b : Byte} {c : Cart} {s : State} (h : route a = .cart)
    (hb : s.cart.read a = some (b, c)) : memRead a s = .ok b { s with cart := c } := by simp [memRead, h, hb]

theorem memRead_cart_none {a : Word} {s : State} (h : route a = .cart) (hb : s.cart.read a = none) :
    memRead a s = .unmapped a s := by simp [memRead, h, hb]

theorem memWrite_cart_some {a : Word} {v : Byte} {c : Cart} {s : State} (h : route a = .cart)
    (hc : s.cart.write a v = some c) : memWrite a v s = .ok () { s with cart := c } := by simp [memWrite, h, hc]

theorem memWrite_cart_none {a : Word} {v : Byte} {s : State} (h : route a = .cart) (hc : s.cart.write a v = none) :
    memWrite a v s = .unmapped a s := by simp [memWrite, h, hc]

theorem route_port1 : route 0x4016 = .pad .one := by decide

theorem route_port2 : route 0x4017 = .pad .two := by decide

theorem memRead_port1 (s : State) : memRead 0x4016 s = .ok (controllerRead .one s).1 (controllerRead .one s).2 := by
  unfold memRead; rw [route_port1]

theorem memRead_port2 (s : State) : memRead 0x4017 s = .ok (controllerRead .two s).1 (controllerRead .two s).2 := by
  unfold memRead; rw [route_port2]

theorem memWrite_port1 (v : Byte) (s : State) : memWrite 0x4016 v s = .ok () (strobeWrite v s) := by
  unfold memWrite; rw [route_port1]

/-- A read of a zero-page address is a read of RAM and has no side effect (R74). -/
theorem memRead_zeroPage (b : Byte) (s : State) : memRead (join 0 b) s = .ok (s.mem.read b.toNat) s :=
  memRead_ram (route_zeroPage b) s

/-- All a served read can do (R49): of the video unit it changes vblank, w and vaddr; it changes the controllers, the
count of draws and, by the cartridge's own side effect, the cartridge; and nothing else. -/
structure ReadFrame (s t : State) : Prop where
  eq : t = { s with video := t.video, pad1 := t.pad1, pad2 := t.pad2, draws := t.draws, cart := t.cart }
  video : t.video = { s.video with vblank := t.video.vblank, w := t.video.w, vaddr := t.video.vaddr }
  windows : ∀ ws, s.cart = .windows ws → t.cart = s.cart
  cartPeek : ∀ a, t.cart.peek a = s.cart.peek a
  cartWf : s.cart.wf → t.cart.wf
  cursor1 : s.pad1.cursor ≤ 8 → t.pad1.cursor ≤ 8
  cursor2 : s.pad2.cursor ≤ 8 → t.pad2.cursor ≤ 8

theorem ReadFrame.refl (s : State) : ReadFrame s s := ⟨rfl, rfl, fun _ _ => rfl, fun _ => rfl, id, id, id⟩

theorem ReadFrame.oam {s t : State} (h : ReadFrame s t) : t.video.oam = s.video.oam := by rw [h.video]

theorem ReadFrame.scanline {s t : State} (h : ReadFrame s t) : t.video.scanline = s.video.scanline := by rw [h.video]

theorem ReadFrame.dot {s t : State} (h : ReadFrame s t) : t.video.dot = s.video.dot := by rw [h.video]

theorem ReadFrame.trans {s t u : State} (h1 : ReadFrame s t) (h2 : ReadFrame t u) : ReadFrame s u where
  eq := by rw [h2.eq, h1.eq]
  video := by rw [h2.video, h1.video]
  windows := fun ws h => (h2.windows ws ((h1.windows ws h).trans h)).trans (h1.windows ws h)
  cartPeek := fun a => (h2.cartPeek a).trans (h1.cartPeek a)
  cartWf := h2.cartWf ∘ h1.cartWf
  cursor1 := h2.cursor1 ∘ h1.cursor1
  cursor2 := h2.cursor2 ∘ h1.cursor2

theorem videoRegRead_frame (r : VReg) (s : State) : ReadFrame s (videoRegRead r s).2 := by
  cases r <;> exact ⟨rfl, rfl, fun _ _ => rfl, fun _ => rfl, id, id, id⟩

theorem controllerRead_frame (p : Port) (s : State) : ReadFrame s (controllerRead p s).2 := by
  unfold controllerRead
  split
  · cases p
    · exact ⟨rfl, rfl, fun _ _ => rfl, fun _ => rfl, id, fun _ => Nat.zero_le _, id⟩
    · exact ⟨rfl, rfl, fun _ _ => rfl, fun _ => rfl, id, id, fun _ => Nat.zero_le _⟩
  · split
    · next h =>
      cases p
      · exact ⟨rfl, rfl, fun _ _ => rfl, fun _ => rfl, id, fun _ => Nat.succ_le_succ h, id⟩
      · exact ⟨rfl, rfl, fun _ _ => rfl, fun _ => rfl, id, id, fun _ => Nat.succ_le_succ h⟩
    · exact .refl s

/-- A read that is served changes devices only. -/
theorem memRead_frame {a : Word} {b : Byte} {s t : State} (h : memRead a s = .ok b t) : ReadFrame s t := by
  unfold memRead at h
  split at h
  · cases h; exact .refl _
  · cases h; exact videoRegRead_frame _ _
  · cases h; exact .refl _
  · cases h; exact controllerRead_frame _ _
  · cases h
  · split at h
    · next hc =>
      cases h
      obtain ⟨h1, h2, h3⟩ := Cart.read_frame hc
      exact ⟨rfl, rfl, fun ws e => (h1 ws e).1, h2, h3, id, id⟩
    · cases h

/-- A served read leaves every device but the one at its address (R35, R49). -/
theorem memRead_region {a : Word} {b : Byte} {s t : State} (h : memRead a s = .ok b t) :
    ((∀ r, route a ≠ .vreg r) → t.video = s.video ∧ t.draws = s.draws) ∧
    (route a ≠ .pad .one → t.pad1 = s.pad1) ∧ (route a ≠ .pad .two → t.pad2 = s.pad2) ∧
    (route a ≠ .cart → t.cart = s.cart) := by
  unfold memRead at h
  split at h
  · cases h; exact ⟨fun _ => ⟨rfl, rfl⟩, fun _ => rfl, fun _ => rfl, fun _ => rfl⟩
  · next r hr =>
    cases h
    exact ⟨fun hn => absurd hr (hn r), by cases r <;> exact ⟨fun _ => rfl, fun _ => rfl, fun _ => rfl⟩⟩
  · cases h; exact ⟨fun _ => ⟨rfl, rfl⟩, fun _ => rfl, fun _ => rfl, fun _ => rfl⟩
  · next p hr =>
    cases h
    rw [hr]
    cases p <;> unfold controllerRead <;> (repeat' split) <;> simp [reload, State.setPad]
  · cases h
  · next hr =>
    split at h
    · cases h; exact ⟨fun _ => ⟨rfl, rfl⟩, fun _ => rfl, fun _ => rfl, fun hn => absurd hr hn⟩
    · cases h

/-- A read of RAM or I/O storage changes nothing. -/
theorem memRead_storage {a : Word} {b : Byte} {s t : State} (h : memRead a s = .ok b t)
    (hr : ∃ k, route a = .ram k ∨ route a = .io k) : t = s ∧ s.peek a = some b := by
  obtain ⟨k, hr | hr⟩ := hr
  · simp only [memRead, hr] at h; cases h; exact ⟨rfl, by simp [State.peek, hr]⟩
  · simp only [memRead, hr] at h; cases h; exact ⟨rfl, by simp [State.peek, hr]⟩

/-- A read of the cartridge view is the cartridge's answer, and changes at most the cartridge (R42). -/
theorem memRead_cart {a : Word} {b : Byte} {s t : State} (h : memRead a s = .ok b t) (hr : route a = .cart) :
    ∃ c, s.cart.read a = some (b, c) ∧ t = { s with cart := c } := by
  simp only [memRead, hr] at h
  split at h
  · next hc => cases h; exact ⟨_, hc, rfl⟩
  · cases h

/-- A read that is not served leaves the state as it was, at an address of the gap or one the cartridge does not
answer. -/
theorem memRead_unmapped {a a' : Word} {s t : State} (h : memRead a s = .unmapped a' t) :
    a' = a ∧ t = s ∧ (route a = .unmapped ∨ route a = .cart ∧ s.cart.read a = none) := by
  unfold memRead at h
  split at h
  · cases h
  · cases h
  · cases h
  · cases h
  · next hr => cases h; exact ⟨rfl, rfl, .inl hr⟩
  · next hr =>
    split at h
    · cases h
    · next hn => cases h; exact ⟨rfl, rfl, .inr ⟨hr, hn⟩⟩

/-- All a served write can do: it changes storage, the video unit, the controllers, the output log and the cartridge, and
nothing else. -/
structure WriteFrame (a : Word) (s t : State) : Prop where
  eq : t = { s with
    mem := t.mem, io4017w := t.io4017w, video := t.video, pad1 := t.pad1, pad2 := t.pad2, strobe := t.strobe
    vramLog := t.vramLog, cart := t.cart }
  cart : route a ≠ .cart → t.cart = s.cart
  cartPeek : ∀ b, s.cart.sameByte a b = false → t.cart.peek b = s.cart.peek b
  cartWf : s.cart.wf → t.cart.wf
  cartRom : ∀ ws, s.cart = .windows ws → (∀ w ∈ ws, w.onWrite ≠ .stored) → t.cart = s.cart
  mem : (∃ v k, t.mem = s.mem.write k v ∧ (route a = .ram k ∨ route a = .io k)) ∨
    t.mem = s.mem ∧ ∀ k, route a ≠ .ram k ∧ route a ≠ .io k
  oam : t.video.oam = s.video.oam ∨ ∃ v, t.video.oam = s.video.oam.write s.video.oamaddr.toNat v
  scanline : t.video.scanline = s.video.scanline
  dot : t.video.dot = s.video.dot
  cursor1 : s.pad1.cursor ≤ 8 → t.pad1.cursor ≤ 8
  cursor2 : s.pad2.cursor ≤ 8 → t.pad2.cursor ≤ 8

theorem strobeWrite_frame {a : Word} (hr : ∀ k, route a ≠ .ram k ∧ route a ≠ .io k) (v : Byte) (s : State) :
    WriteFrame a s (strobeWrite v s) := by
  unfold strobeWrite
  split
  · exact ⟨rfl, fun _ => rfl, fun _ _ => rfl, id, fun _ _ _ => rfl, .inr ⟨rfl, hr⟩, .inl rfl, rfl, rfl, fun _ => Nat.zero_le _, fun _ => Nat.zero_le _⟩
  · split
    · exact ⟨rfl, fun _ => rfl, fun _ _ => rfl, id, fun _ _ _ => rfl, .inr ⟨rfl, hr⟩, .inl rfl, rfl, rfl, fun _ => Nat.zero_le _, fun _ => Nat.zero_le _⟩
    · exact ⟨rfl, fun _ => rfl, fun _ _ => rfl, id, fun _ _ _ => rfl, .inr ⟨rfl, hr⟩, .inl rfl, rfl, rfl, id, id⟩

theorem videoRegWrite_frame {a : Word} (hr : ∀ k, route a ≠ .ram k ∧ route a ≠ .io k) (r : VReg) (v : Byte)
    (s : State) : WriteFrame a s (videoRegWrite r v s) := by
  have h : ∀ u : Video, (Video.regWrite u r v).scanline = u.scanline ∧ (Video.regWrite u r v).dot = u.dot ∧
      ((Video.regWrite u r v).oam = u.oam ∨ ∃ b, (Video.regWrite u r v).oam = u.oam.write u.oamaddr.toNat b) := by
    intro u
    cases r <;> first
      | exact ⟨rfl, rfl, .inl rfl⟩
      | exact ⟨rfl, rfl, .inr ⟨v, rfl⟩⟩
      | (unfold Video.regWrite; dsimp only; split <;> exact ⟨rfl, rfl, .inl rfl⟩)
  obtain ⟨h1, h2, h3⟩ := h { s.video with openBus := v }
  exact ⟨rfl, fun _ => rfl, fun _ _ => rfl, id, fun _ _ _ => rfl, .inr ⟨rfl, hr⟩, h3, h1, h2, id, id⟩

/-- A write that is served changes one backing store only. -/
theorem memWrite_frame {a : Word} {v : Byte} {s t : State} (h : memWrite a v s = .ok () t) : WriteFrame a s t := by
  unfold memWrite at h
  split at h
  · next hr => cases h; exact ⟨rfl, fun _ => rfl, fun _ _ => rfl, id, fun _ _ _ => rfl, .inl ⟨v, _, rfl, .inl hr⟩, .inl rfl, rfl, rfl, id, id⟩
  · next hr => cases h; exact videoRegWrite_frame (by simp [hr]) _ _ _
  · next hr => cases h; exact ⟨rfl, fun _ => rfl, fun _ _ => rfl, id, fun _ _ _ => rfl, .inl ⟨v, _, rfl, .inr hr⟩, .inl rfl, rfl, rfl, id, id⟩
  · next hr => cases h; exact strobeWrite_frame (by simp [hr]) _ _
  · next hr => cases h; exact ⟨rfl, fun _ => rfl, fun _ _ => rfl, id, fun _ _ _ => rfl, .inr ⟨rfl, by simp [hr]⟩, .inl rfl, rfl, rfl, id, id⟩
  · cases h
  · next hr =>
    split at h
    · next hc =>
      cases h
      obtain ⟨h1, h2, h3⟩ := Cart.write_frame hc
      exact ⟨rfl, fun hn => absurd hr hn, h1, h2, h3, .inr ⟨rfl, by simp [hr]⟩, .inl rfl, rfl, rfl, id, id⟩
    · cases h

/-- A served write leaves every device but the one at its address (R36). -/
theorem memWrite_region {a : Word} {v : Byte} {s t : State} (h : memWrite a v s = .ok () t) :
    ((∀ r, route a ≠ .vreg r) → t.video = s.video ∧ t.vramLog = s.vramLog) ∧
    (route a ≠ .pad .one → t.pad1 = s.pad1 ∧ t.pad2 = s.pad2 ∧ t.strobe = s.strobe) ∧
    (route a ≠ .pad .two → t.io4017w = s.io4017w) := by
  unfold memWrite at h
  split at h
  · cases h; exact ⟨fun _ => ⟨rfl, rfl⟩, fun _ => ⟨rfl, rfl, rfl⟩, fun _ => rfl⟩
  · next r hr => cases h; exact ⟨fun hn => absurd hr (hn r), fun _ => ⟨rfl, rfl, rfl⟩, fun _ => rfl⟩
  · cases h; exact ⟨fun _ => ⟨rfl, rfl⟩, fun _ => ⟨rfl, rfl, rfl⟩, fun _ => rfl⟩
  · next hr =>
    cases h
    rw [hr]
    unfold strobeWrite; (repeat' split) <;> simp [reload, State.setPad]
  · next hr =>
    cases h
    exact ⟨fun _ => ⟨rfl, rfl⟩, fun _ => ⟨rfl, rfl, rfl⟩, fun hn => absurd hr hn⟩
  · cases h
  · split at h
    · cases h; exact ⟨fun _ => ⟨rfl, rfl⟩, fun _ => ⟨rfl, rfl, rfl⟩, fun _ => rfl⟩
    · cases h

/-- A write to the cartridge view is the cartridge's answer, and changes at most the cartridge (R42). -/
theorem memWrite_cart {a : Word} {v : Byte} {s t : State} (h : memWrite a v s = .ok () t) (hr : route a = .cart) :
    ∃ c, s.cart.write a v = some c ∧ t = { s with cart := c } := by
  simp only [memWrite, hr] at h
  split at h
  · next hc => cases h; exact ⟨_, hc, rfl⟩
  · cases h

/-- A write that is not served leaves the state as it was. -/
theorem memWrite_unmapped {a a' : Word} {v : Byte} {s t : State} (h : memWrite a v s = .unmapped a' t) :
    a' = a ∧ t = s ∧ (route a = .unmapped ∨ route a = .cart ∧ s.cart.write a v = none) := by
  unfold memWrite at h
  split at h
  · cases h
  · cases h
  · cases h
  · cases h
  · cases h
  · next hr => cases h; exact ⟨rfl, rfl, .inl hr⟩
  · next hr =>
    split at h
    · cases h
    · next hn => cases h; exact ⟨rfl, rfl, .inr ⟨hr, hn⟩⟩

/-- What plain storage holds depends on the storage and the cartridge alone. -/
theorem State.peek_congr {s t : State} (hm : t.mem = s.mem) (hc : ∀ a, t.cart.peek a = s.cart.peek a) (b : Word) :
    t.peek b = s.peek b := by simp [State.peek, hm, hc]

/-- A read leaves every byte of storage. -/
theorem ReadFrame.peek {s t : State} (h : ReadFrame s t) (b : Word) : t.peek b = s.peek b :=
  State.peek_congr (by rw [h.eq]) h.cartPeek b

/-- A write leaves every byte of storage but the one it reaches. -/
theorem memWrite_peek_other {a b : Word} {v : Byte} {s t : State} (h : memWrite a v s = .ok () t)
    (hb : route b ≠ route a ∨ route a = .cart ∧ s.cart.sameByte a b = false) : t.peek b = s.peek b := by
  have f := memWrite_frame h
  rcases hb with hb | ⟨ha, hb⟩
  · rcases f.mem with ⟨w, k, hm, hr⟩ | ⟨hm, -⟩
    · have hc : t.cart = s.cart := f.cart (by rcases hr with hr | hr <;> rw [hr] <;> simp)
      unfold State.peek
      rw [hm, hc]
      rcases hr with hr | hr <;> rw [hr] at hb <;> split <;> first
        | rfl
        | (next j hj =>
            refine congrArg some (Memory.read_write_other _ _ ?_)
            rintro rfl
            first
              | exact hb hj
              | (have h1 := range_of_route_ram hj; have h2 := range_of_route_io hr; omega)
              | (have h1 := range_of_route_io hj; have h2 := range_of_route_ram hr; omega))
    · by_cases ha : route a = .cart
      · simp only [State.peek, hm]
        split
        · rfl
        · rfl
        · next hbc => exact absurd (hbc.trans ha.symm) hb
        · rfl
        · rfl
        · rfl
      · exact State.peek_congr hm (fun x => by rw [f.cart ha]) b
  · rcases f.mem with ⟨w, k, hm, hr⟩ | ⟨hm, -⟩
    · rcases hr with hr | hr <;> rw [hr] at ha <;> cases ha
    · simp only [State.peek, hm, f.cartPeek b hb]

end Sys2Proof.Machine
end

