-- ==== Sys2Proof/Laws/Stack.lean ====
section
/-! SUPPORT. The stack and the interrupt sequences: a stack access never stops, so each has one equation. -/

namespace Sys2Proof.Machine

/-- Push, as one update: page 1 is RAM, so it never stops (R45, R93). -/
theorem push_eq (v : Byte) (s : State) :
    push v s = .ok () { s with mem := s.mem.write (0x100 + s.sp.toNat) v, sp := s.sp - 1 } := by
  simp only [push, memWrite_ram (route_stackAddr s.sp), Res.bind_ok]; rfl

/-- Pull, as one update (R45, R93). -/
theorem pull_eq (s : State) :
    pull s = .ok (s.mem.read (0x100 + (s.sp + 1).toNat)) { s with sp := s.sp + 1 } := by
  simp only [pull, memRead_ram (route_stackAddr (s.sp + 1))]; rfl

theorem push16_eq (v : Word) (s : State) :
    push16 v s = .ok () { s with
      mem := (s.mem.write (0x100 + s.sp.toNat) (hi v)).write (0x100 + (s.sp - 1).toNat) (lo v)
      sp := s.sp - 2 } := by
  have e : s.sp - 1 - 1 = s.sp - 2 := by rw [BitVec.sub_sub]; rfl
  simp only [push16, push_eq, Res.bind_ok, e]

theorem pull16_eq (s : State) :
    pull16 s = .ok (join (s.mem.read (0x100 + (s.sp + 2).toNat)) (s.mem.read (0x100 + (s.sp + 1).toNat)))
      { s with sp := s.sp + 2 } := by
  have e : s.sp + 1 + 1 = s.sp + 2 := by rw [BitVec.add_assoc]; rfl
  simp only [pull16, pull_eq, Res.bind_ok, e]

/-- The state an interrupt entry has reached when it reads the vector (R127, R150). -/
def entered (ret : Word) (b : Bool) (s : State) : State :=
  { s with
    mem := ((s.mem.write (0x100 + s.sp.toNat) (hi ret)).write (0x100 + (s.sp - 1).toNat) (lo ret)).write
      (0x100 + (s.sp - 2).toNat) (s.flags.image b)
    sp := s.sp - 3
    flags := { s.flags with i := true } }

/-- The interrupt entry is its pushes, then the vector read (R127, R150). -/
theorem enterInterrupt_eq (ret : Word) (b : Bool) (vector : Word) (s : State) :
    enterInterrupt ret b vector s =
      (memRead16 vector (vector + 1) (entered ret b s)).bind fun target s1 => .ok () (s1.setPc target) := by
  have e : s.sp - 2 - 1 = s.sp - 3 := by rw [BitVec.sub_sub]; rfl
  simp only [enterInterrupt, push16_eq, push_eq, Res.bind_ok, e]; rfl

theorem returnFromInterrupt_eq (s : State) :
    returnFromInterrupt s = .ok () { s with
      flags := Flags.ofByte (s.mem.read (0x100 + (s.sp + 1).toNat))
      sp := s.sp + 3
      pc := join (s.mem.read (0x100 + (s.sp + 3).toNat)) (s.mem.read (0x100 + (s.sp + 2).toNat)) } := by
  have e1 : s.sp + 1 + 1 = s.sp + 2 := by rw [BitVec.add_assoc]; rfl
  have e2 : s.sp + 1 + 2 = s.sp + 3 := by rw [BitVec.add_assoc]; rfl
  simp only [returnFromInterrupt, pull_eq, pull16_eq, Res.bind_ok, State.setFlags, State.setPc, e1, e2]

/-- A vector the cartridge answers, low byte first: the second read is of the cartridge the first one left (R44, R46). -/
theorem memRead16_cart {a b : Word} {l h : Byte} {c d : Cart} {s : State} (ra : route a = .cart) (rb : route b = .cart)
    (hl : s.cart.read a = some (l, c)) (hh : c.read b = some (h, d)) :
    memRead16 a b s = .ok (join h l) { s with cart := d } := by
  simp only [memRead16, memRead_cart_some ra hl, memRead_cart_some (s := { s with cart := c }) rb hh, Res.bind_ok]

/-- A vector whose second byte the cartridge does not answer (R44). -/
theorem memRead16_cart_none {a b : Word} {l : Byte} {c : Cart} {s : State} (ra : route a = .cart) (rb : route b = .cart)
    (hl : s.cart.read a = some (l, c)) (hh : c.read b = none) :
    memRead16 a b s = .unmapped b { s with cart := c } := by
  simp only [memRead16, memRead_cart_some ra hl, memRead_cart_none (s := { s with cart := c }) rb hh, Res.bind_ok,
    Res.bind_unmapped]

/-- An interrupt entry whose vector the cartridge answers (R127, R150). -/
theorem enterInterrupt_cart {ret v w : Word} {b : Bool} {s : State} {l h : Byte} {c d : Cart} (e : v + 1 = w)
    (r1 : route v = .cart) (r2 : route w = .cart) (h1 : s.cart.read v = some (l, c)) (h2 : c.read w = some (h, d)) :
    enterInterrupt ret b v s = .ok () { entered ret b s with pc := join h l, cart := d } := by
  rw [enterInterrupt_eq, e, memRead16_cart (s := entered ret b s) r1 r2 h1 h2]; rfl

/-- An interrupt entry whose vector the cartridge does not answer (R127, R153). -/
theorem enterInterrupt_none {ret v : Word} {b : Bool} {s : State} (r1 : route v = .cart) (h1 : s.cart.read v = none) :
    enterInterrupt ret b v s = .unmapped v (entered ret b s) := by
  rw [enterInterrupt_eq]; unfold memRead16; rw [memRead_cart_none (s := entered ret b s) r1 h1]; rfl

/-- An interrupt entry whose vector's second byte the cartridge does not answer (R127, R153). -/
theorem enterInterrupt_half {ret v w : Word} {b : Bool} {s : State} {l : Byte} {c : Cart} (e : v + 1 = w)
    (r1 : route v = .cart) (r2 : route w = .cart) (h1 : s.cart.read v = some (l, c)) (h2 : c.read w = none) :
    enterInterrupt ret b v s = .unmapped w { entered ret b s with cart := c } := by
  rw [enterInterrupt_eq, e, memRead16_cart_none (s := entered ret b s) r1 r2 h1 h2]; rfl

/-- A 16-bit read that is served changes devices only. -/
theorem memRead16_frame {a b w : Word} {s t : State} (h : memRead16 a b s = .ok w t) : ReadFrame s t := by
  simp only [memRead16, Res.bind_eq_ok] at h
  obtain ⟨_, _, h1, _, _, h2, h3⟩ := h
  cases h3
  exact (memRead_frame h1).trans (memRead_frame h2)

end Sys2Proof.Machine
end

