-- ==== Sys2Proof/Laws/Operands.lean ====
section
/-! SUPPORT. Resolving an address mode: what each gives, and that no data mode stops or changes the state. -/

namespace Sys2Proof.Machine

theorem zeroPagePointer_eq (p : Byte) (s : State) :
    zeroPagePointer p s = .ok (join (s.mem.read (p + 1).toNat) (s.mem.read p.toNat)) s := by
  simp only [zeroPagePointer, memRead16, memRead_zeroPage, Res.bind_ok]

theorem resolve_izx (b : Byte) (s : State) :
    resolve (.izx b) s =
      .ok { ea := join (s.mem.read (b + s.x + 1).toNat) (s.mem.read (b + s.x).toNat), crossed := false } s := by
  simp only [resolve, zeroPagePointer_eq, Res.bind_ok]

theorem resolve_izy (b : Byte) (s : State) :
    resolve (.izy b) s = .ok (indexed (join (s.mem.read (b + 1).toNat) (s.mem.read b.toNat)) s.y) s := by
  simp only [resolve, zeroPagePointer_eq, Res.bind_ok]

/-- Resolving can only read: it changes devices only, and IND alone can change even those. -/
theorem resolve_frame {m : Address} {r : Resolved} {s t : State} (h : resolve m s = .ok r t) :
    ReadFrame s t ∧ ((∀ w, m ≠ .ind w) → t = s) := by
  cases m with
  | izx b => rw [resolve_izx] at h; cases h; exact ⟨.refl s, fun _ => rfl⟩
  | izy b => rw [resolve_izy] at h; cases h; exact ⟨.refl s, fun _ => rfl⟩
  | ind w =>
    simp only [resolve, Res.bind_eq_ok] at h
    obtain ⟨_, _, h1, h2⟩ := h
    cases h2
    exact ⟨memRead16_frame h1, fun hn => absurd rfl (hn w)⟩
  | _ => cases h; exact ⟨.refl s, fun _ => rfl⟩

/-- A page cross costs at most one cycle. -/
theorem Resolved.extra_le (r : Resolved) : r.extra ≤ 1 := by
  unfold Resolved.extra; split <;> omega

end Sys2Proof.Machine
end

