-- ==== Sys2Proof/Laws/Video.lean ====
section
/-! SUPPORT. The video counter: what a tick and a run of ticks do. -/

namespace Sys2Proof.Machine

/-- A tick moves the counter and the vblank flag, and nothing else. -/
theorem Video.tick_frame (v : Video) :
    v.tick.1 = { v with scanline := v.tick.1.scanline, dot := v.tick.1.dot, vblank := v.tick.1.vblank } := rfl

/-- Ticks move the counter and the vblank flag, and nothing else. -/
theorem Video.ticks_frame (n : Nat) (v : Video) :
    (v.ticks n).1 =
      { v with scanline := (v.ticks n).1.scanline, dot := (v.ticks n).1.dot, vblank := (v.ticks n).1.vblank } := by
  induction n generalizing v with
  | zero => rfl
  | succ n ih =>
    have h := ih v.tick.1
    simp only [Video.ticks]
    rw [h]
    rfl

/-- A tick keeps the counter in its frame (R24). -/
theorem Video.tick_range {v : Video} (h1 : v.scanline < Config.scanlines) (h2 : v.dot < Config.dots) :
    v.tick.1.scanline < Config.scanlines ∧ v.tick.1.dot < Config.dots := by
  simp only [Video.tick, Video.advance]
  constructor <;> split <;> (try split) <;> omega

/-- Ticks keep the counter in its frame (R24). -/
theorem Video.ticks_range (n : Nat) {v : Video} (h1 : v.scanline < Config.scanlines) (h2 : v.dot < Config.dots) :
    (v.ticks n).1.scanline < Config.scanlines ∧ (v.ticks n).1.dot < Config.dots := by
  induction n generalizing v with
  | zero => exact ⟨h1, h2⟩
  | succ n ih =>
    obtain ⟨a, b⟩ := Video.tick_range h1 h2
    exact ih a b

/-- A run of ticks in two parts. -/
theorem Video.ticks_add (m n : Nat) (v : Video) :
    v.ticks (m + n) = (((v.ticks m).1.ticks n).1, (v.ticks m).2 || ((v.ticks m).1.ticks n).2) := by
  induction m generalizing v with
  | zero => simp [Video.ticks]
  | succ m ih =>
    rw [Nat.succ_add]
    simp only [Video.ticks, ih, Bool.or_assoc]

/-- A tick inside scanline 0 moves the dot only. -/
theorem Video.tick_line0 {v : Video} (h1 : v.scanline = 0) (h2 : v.dot + 1 < Config.dots) :
    v.tick = ({ v with dot := v.dot + 1 }, false) := by
  have : v.dot + 1 ≠ Config.dots := by omega
  simp only [Video.tick, Video.advance, Video.atVblank, Video.atPreRender, h1, this]
  cases v; subst h1; rfl

/-- Ticks inside scanline 0 move the dot only. -/
theorem Video.ticks_line0 (n : Nat) {v : Video} (h1 : v.scanline = 0) (h2 : v.dot + n < Config.dots) :
    v.ticks n = ({ v with dot := v.dot + n }, false) := by
  induction n generalizing v with
  | zero => rfl
  | succ n ih =>
    simp only [Video.ticks, Video.tick_line0 h1 (by omega)]
    rw [ih (v := { v with dot := v.dot + 1 }) h1 (by show v.dot + 1 + n < Config.dots; omega)]
    simp; omega

end Sys2Proof.Machine
end

