-- ==== Sys2Proof/Laws/Exec.lean ====
section
/-! SUPPORT. What an instruction is: every meaning is one of a few shared operations, said once, so that a law
about all instructions is a law about those. -/

namespace Sys2Proof.Machine

/-- The effects of the read class (R79). -/
inductive ReadEffect : Mnemonic → (Byte → State → State) → Prop
  | lda : ReadEffect .lda loadA
  | ldx : ReadEffect .ldx loadX
  | ldy : ReadEffect .ldy loadY
  | adc : ReadEffect .adc addA
  | sbc : ReadEffect .sbc subA
  | and : ReadEffect .and andA
  | ora : ReadEffect .ora orA
  | eor : ReadEffect .eor eorA
  | bit : ReadEffect .bit testA
  | cmp : ReadEffect .cmp compareA
  | cpx : ReadEffect .cpx compareX
  | cpy : ReadEffect .cpy compareY

/-- The registers the write class stores (R84 to R86). -/
inductive StoreSource : Mnemonic → (State → Byte) → Prop
  | sta : StoreSource .sta State.a
  | stx : StoreSource .stx State.x
  | sty : StoreSource .sty State.y

/-- The functions of the shifts and rotates (R118 to R121). -/
inductive ShiftEffect : Mnemonic → (Byte → Flags → Byte × Flags) → Prop
  | asl : ShiftEffect .asl aslCore
  | lsr : ShiftEffect .lsr lsrCore
  | rol : ShiftEffect .rol rolCore
  | ror : ShiftEffect .ror rorCore

/-- The functions of INC and DEC (R111, R112). -/
inductive CountEffect : Mnemonic → (Byte → Byte) → Prop
  | inc : CountEffect .inc (· + 1)
  | dec : CountEffect .dec (· - 1)

/-- The effects of the one-byte instructions with no bus access (R65). -/
inductive ImpliedEffect : Mnemonic → (State → State) → Prop
  | tax : ImpliedEffect .tax fun s => loadX s.a s
  | tay : ImpliedEffect .tay fun s => loadY s.a s
  | txa : ImpliedEffect .txa fun s => loadA s.x s
  | tya : ImpliedEffect .tya fun s => loadA s.y s
  | tsx : ImpliedEffect .tsx fun s => loadX s.sp s
  | txs : ImpliedEffect .txs fun s => s.setSp s.x
  | inx : ImpliedEffect .inx fun s => loadX (s.x + 1) s
  | iny : ImpliedEffect .iny fun s => loadY (s.y + 1) s
  | dex : ImpliedEffect .dex fun s => loadX (s.x - 1) s
  | dey : ImpliedEffect .dey fun s => loadY (s.y - 1) s
  | clc : ImpliedEffect .clc fun s => s.setFlags { s.flags with c := false }
  | sec : ImpliedEffect .sec fun s => s.setFlags { s.flags with c := true }
  | cli : ImpliedEffect .cli fun s => s.setFlags { s.flags with i := false }
  | sei : ImpliedEffect .sei fun s => s.setFlags { s.flags with i := true }
  | cld : ImpliedEffect .cld fun s => s.setFlags { s.flags with d := false }
  | sed : ImpliedEffect .sed fun s => s.setFlags { s.flags with d := true }
  | clv : ImpliedEffect .clv fun s => s.setFlags { s.flags with v := false }
  | nop : ImpliedEffect .nop fun s => s

/-- What PHA and PHP push (R95, R96). -/
inductive PushSource : Mnemonic → (State → Byte) → Prop
  | pha : PushSource .pha State.a
  | php : PushSource .php fun s => s.flags.image true

/-- What PLA and PLP do with the byte pulled (R97, R98). -/
inductive PullEffect : Mnemonic → (Byte → State → State) → Prop
  | pla : PullEffect .pla loadA
  | plp : PullEffect .plp fun m s => s.setFlags (Flags.ofByte m)

/-- The conditions of the branches (R130 to R137). -/
inductive BranchCondition : Mnemonic → (Flags → Bool) → Prop
  | bcc : BranchCondition .bcc fun f => !f.c
  | bcs : BranchCondition .bcs Flags.c
  | beq : BranchCondition .beq Flags.z
  | bne : BranchCondition .bne fun f => !f.z
  | bmi : BranchCondition .bmi Flags.n
  | bpl : BranchCondition .bpl fun f => !f.n
  | bvc : BranchCondition .bvc fun f => !f.v
  | bvs : BranchCondition .bvs Flags.v

/-- An address mode that names a data byte: every one but IND and REL (R79). -/
def dataMode : Address → Prop
  | .zp _ | .zpx _ | .zpy _ | .abs _ | .abx _ | .aby _ | .izx _ | .izy _ => True
  | .ind _ | .rel _ => False

/-- The shared operation an instruction is, with its row of the table. -/
inductive ExecForm (i : Instr) : Prop
  | readImm (v : Byte) (f : Byte → State → State) (effect : ReadEffect i.row.mnemonic f)
      (operand : i.row.operand = .imm v) (count : i.row.cycles = 2) (run : ∀ s, exec i s = readImm v f s)
  | readMem (m : Address) (f : Byte → State → State) (effect : ReadEffect i.row.mnemonic f)
      (operand : i.row.operand = .mem m) (data : dataMode m) (low : 2 ≤ i.row.cycles) (high : i.row.cycles ≤ 6)
      (run : ∀ s, exec i s = readMem m i.row.cycles f s)
  | writeMem (m : Address) (f : State → Byte) (effect : StoreSource i.row.mnemonic f)
      (operand : i.row.operand = .mem m) (data : dataMode m) (low : 2 ≤ i.row.cycles) (high : i.row.cycles ≤ 7)
      (run : ∀ s, exec i s = writeMem m i.row.cycles (f s) s)
  | shiftMem (m : Address) (f : Byte → Flags → Byte × Flags) (effect : ShiftEffect i.row.mnemonic f)
      (operand : i.row.operand = .mem m) (data : dataMode m) (low : 2 ≤ i.row.cycles) (high : i.row.cycles ≤ 7)
      (run : ∀ s, exec i s = shiftMem m i.row.cycles f s)
  | countMem (m : Address) (f : Byte → Byte) (effect : CountEffect i.row.mnemonic f)
      (operand : i.row.operand = .mem m) (data : dataMode m) (low : 2 ≤ i.row.cycles) (high : i.row.cycles ≤ 7)
      (run : ∀ s, exec i s = countMem m i.row.cycles f s)
  | shiftAcc (f : Byte → Flags → Byte × Flags) (effect : ShiftEffect i.row.mnemonic f)
      (operand : i.row.operand = .acc) (run : ∀ s, exec i s = shiftAcc f s)
  | implied (f : State → State) (effect : ImpliedEffect i.row.mnemonic f)
      (operand : i.row.operand = .imp) (run : ∀ s, exec i s = implied f s)
  | branch (d : Int) (f : Flags → Bool) (effect : BranchCondition i.row.mnemonic f)
      (operand : i.row.operand = .mem (.rel d)) (run : ∀ s, exec i s = branch (f s.flags) d s)
  | push (f : State → Byte) (effect : PushSource i.row.mnemonic f) (operand : i.row.operand = .imp)
      (run : ∀ s, exec i s = pushByte (f s) s)
  | pull (f : Byte → State → State) (effect : PullEffect i.row.mnemonic f) (operand : i.row.operand = .imp)
      (run : ∀ s, exec i s = pullByte f s)
  | jmpAbs (w : Word) (is : i = .jmpAbs w)
  | jmpInd (w : Word) (is : i = .jmpInd w)
  | jsr (w : Word) (is : i = .jsr w)
  | rts (is : i = .rts)
  | brk (is : i = .brk)
  | rti (is : i = .rti)
  | jam (mnemonic : i.row.mnemonic = .jam) (operand : i.row.operand = .imp) (run : ∀ s, exec i s = halt s)

/-- Every instruction is one of the shared operations. -/
theorem exec_form : (i : Instr) → ExecForm i
  | .ldaImm v => .readImm v _ .lda rfl rfl fun _ => rfl
  | .ldaZp _ => .readMem _ _ .lda rfl trivial (Nat.le_of_ble_eq_true rfl) (Nat.le_of_ble_eq_true rfl) fun _ => rfl
  | .ldaZpx _ => .readMem _ _ .lda rfl trivial (Nat.le_of_ble_eq_true rfl) (Nat.le_of_ble_eq_true rfl) fun _ => rfl
  | .ldaAbs _ => .readMem _ _ .lda rfl trivial (Nat.le_of_ble_eq_true rfl) (Nat.le_of_ble_eq_true rfl) fun _ => rfl
  | .ldaAbx _ => .readMem _ _ .lda rfl trivial (Nat.le_of_ble_eq_true rfl) (Nat.le_of_ble_eq_true rfl) fun _ => rfl
  | .ldaAby _ => .readMem _ _ .lda rfl trivial (Nat.le_of_ble_eq_true rfl) (Nat.le_of_ble_eq_true rfl) fun _ => rfl
  | .ldaIzx _ => .readMem _ _ .lda rfl trivial (Nat.le_of_ble_eq_true rfl) (Nat.le_of_ble_eq_true rfl) fun _ => rfl
  | .ldaIzy _ => .readMem _ _ .lda rfl trivial (Nat.le_of_ble_eq_true rfl) (Nat.le_of_ble_eq_true rfl) fun _ => rfl
  | .ldxImm v => .readImm v _ .ldx rfl rfl fun _ => rfl
  | .ldxZp _ => .readMem _ _ .ldx rfl trivial (Nat.le_of_ble_eq_true rfl) (Nat.le_of_ble_eq_true rfl) fun _ => rfl
  | .ldxZpy _ => .readMem _ _ .ldx rfl trivial (Nat.le_of_ble_eq_true rfl) (Nat.le_of_ble_eq_true rfl) fun _ => rfl
  | .ldxAbs _ => .readMem _ _ .ldx rfl trivial (Nat.le_of_ble_eq_true rfl) (Nat.le_of_ble_eq_true rfl) fun _ => rfl
  | .ldxAby _ => .readMem _ _ .ldx rfl trivial (Nat.le_of_ble_eq_true rfl) (Nat.le_of_ble_eq_true rfl) fun _ => rfl
  | .ldyImm v => .readImm v _ .ldy rfl rfl fun _ => rfl
  | .ldyZp _ => .readMem _ _ .ldy rfl trivial (Nat.le_of_ble_eq_true rfl) (Nat.le_of_ble_eq_true rfl) fun _ => rfl
  | .ldyZpx _ => .readMem _ _ .ldy rfl trivial (Nat.le_of_ble_eq_true rfl) (Nat.le_of_ble_eq_true rfl) fun _ => rfl
  | .ldyAbs _ => .readMem _ _ .ldy rfl trivial (Nat.le_of_ble_eq_true rfl) (Nat.le_of_ble_eq_true rfl) fun _ => rfl
  | .ldyAbx _ => .readMem _ _ .ldy rfl trivial (Nat.le_of_ble_eq_true rfl) (Nat.le_of_ble_eq_true rfl) fun _ => rfl
  | .staZp _ => .writeMem _ _ .sta rfl trivial (Nat.le_of_ble_eq_true rfl) (Nat.le_of_ble_eq_true rfl) fun _ => rfl
  | .staZpx _ => .writeMem _ _ .sta rfl trivial (Nat.le_of_ble_eq_true rfl) (Nat.le_of_ble_eq_true rfl) fun _ => rfl
  | .staAbs _ => .writeMem _ _ .sta rfl trivial (Nat.le_of_ble_eq_true rfl) (Nat.le_of_ble_eq_true rfl) fun _ => rfl
  | .staAbx _ => .writeMem _ _ .sta rfl trivial (Nat.le_of_ble_eq_true rfl) (Nat.le_of_ble_eq_true rfl) fun _ => rfl
  | .staAby _ => .writeMem _ _ .sta rfl trivial (Nat.le_of_ble_eq_true rfl) (Nat.le_of_ble_eq_true rfl) fun _ => rfl
  | .staIzx _ => .writeMem _ _ .sta rfl trivial (Nat.le_of_ble_eq_true rfl) (Nat.le_of_ble_eq_true rfl) fun _ => rfl
  | .staIzy _ => .writeMem _ _ .sta rfl trivial (Nat.le_of_ble_eq_true rfl) (Nat.le_of_ble_eq_true rfl) fun _ => rfl
  | .stxZp _ => .writeMem _ _ .stx rfl trivial (Nat.le_of_ble_eq_true rfl) (Nat.le_of_ble_eq_true rfl) fun _ => rfl
  | .stxZpy _ => .writeMem _ _ .stx rfl trivial (Nat.le_of_ble_eq_true rfl) (Nat.le_of_ble_eq_true rfl) fun _ => rfl
  | .stxAbs _ => .writeMem _ _ .stx rfl trivial (Nat.le_of_ble_eq_true rfl) (Nat.le_of_ble_eq_true rfl) fun _ => rfl
  | .styZp _ => .writeMem _ _ .sty rfl trivial (Nat.le_of_ble_eq_true rfl) (Nat.le_of_ble_eq_true rfl) fun _ => rfl
  | .styZpx _ => .writeMem _ _ .sty rfl trivial (Nat.le_of_ble_eq_true rfl) (Nat.le_of_ble_eq_true rfl) fun _ => rfl
  | .styAbs _ => .writeMem _ _ .sty rfl trivial (Nat.le_of_ble_eq_true rfl) (Nat.le_of_ble_eq_true rfl) fun _ => rfl
  | .tax => .implied _ .tax rfl fun _ => rfl
  | .tay => .implied _ .tay rfl fun _ => rfl
  | .txa => .implied _ .txa rfl fun _ => rfl
  | .tya => .implied _ .tya rfl fun _ => rfl
  | .tsx => .implied _ .tsx rfl fun _ => rfl
  | .txs => .implied _ .txs rfl fun _ => rfl
  | .pha => .push _ .pha rfl fun _ => rfl
  | .php => .push _ .php rfl fun _ => rfl
  | .pla => .pull _ .pla rfl fun _ => rfl
  | .plp => .pull _ .plp rfl fun _ => rfl
  | .adcImm v => .readImm v _ .adc rfl rfl fun _ => rfl
  | .adcZp _ => .readMem _ _ .adc rfl trivial (Nat.le_of_ble_eq_true rfl) (Nat.le_of_ble_eq_true rfl) fun _ => rfl
  | .adcZpx _ => .readMem _ _ .adc rfl trivial (Nat.le_of_ble_eq_true rfl) (Nat.le_of_ble_eq_true rfl) fun _ => rfl
  | .adcAbs _ => .readMem _ _ .adc rfl trivial (Nat.le_of_ble_eq_true rfl) (Nat.le_of_ble_eq_true rfl) fun _ => rfl
  | .adcAbx _ => .readMem _ _ .adc rfl trivial (Nat.le_of_ble_eq_true rfl) (Nat.le_of_ble_eq_true rfl) fun _ => rfl
  | .adcAby _ => .readMem _ _ .adc rfl trivial (Nat.le_of_ble_eq_true rfl) (Nat.le_of_ble_eq_true rfl) fun _ => rfl
  | .adcIzx _ => .readMem _ _ .adc rfl trivial (Nat.le_of_ble_eq_true rfl) (Nat.le_of_ble_eq_true rfl) fun _ => rfl
  | .adcIzy _ => .readMem _ _ .adc rfl trivial (Nat.le_of_ble_eq_true rfl) (Nat.le_of_ble_eq_true rfl) fun _ => rfl
  | .sbcImm v => .readImm v _ .sbc rfl rfl fun _ => rfl
  | .sbcZp _ => .readMem _ _ .sbc rfl trivial (Nat.le_of_ble_eq_true rfl) (Nat.le_of_ble_eq_true rfl) fun _ => rfl
  | .sbcZpx _ => .readMem _ _ .sbc rfl trivial (Nat.le_of_ble_eq_true rfl) (Nat.le_of_ble_eq_true rfl) fun _ => rfl
  | .sbcAbs _ => .readMem _ _ .sbc rfl trivial (Nat.le_of_ble_eq_true rfl) (Nat.le_of_ble_eq_true rfl) fun _ => rfl
  | .sbcAbx _ => .readMem _ _ .sbc rfl trivial (Nat.le_of_ble_eq_true rfl) (Nat.le_of_ble_eq_true rfl) fun _ => rfl
  | .sbcAby _ => .readMem _ _ .sbc rfl trivial (Nat.le_of_ble_eq_true rfl) (Nat.le_of_ble_eq_true rfl) fun _ => rfl
  | .sbcIzx _ => .readMem _ _ .sbc rfl trivial (Nat.le_of_ble_eq_true rfl) (Nat.le_of_ble_eq_true rfl) fun _ => rfl
  | .sbcIzy _ => .readMem _ _ .sbc rfl trivial (Nat.le_of_ble_eq_true rfl) (Nat.le_of_ble_eq_true rfl) fun _ => rfl
  | .andImm v => .readImm v _ .and rfl rfl fun _ => rfl
  | .andZp _ => .readMem _ _ .and rfl trivial (Nat.le_of_ble_eq_true rfl) (Nat.le_of_ble_eq_true rfl) fun _ => rfl
  | .andZpx _ => .readMem _ _ .and rfl trivial (Nat.le_of_ble_eq_true rfl) (Nat.le_of_ble_eq_true rfl) fun _ => rfl
  | .andAbs _ => .readMem _ _ .and rfl trivial (Nat.le_of_ble_eq_true rfl) (Nat.le_of_ble_eq_true rfl) fun _ => rfl
  | .andAbx _ => .readMem _ _ .and rfl trivial (Nat.le_of_ble_eq_true rfl) (Nat.le_of_ble_eq_true rfl) fun _ => rfl
  | .andAby _ => .readMem _ _ .and rfl trivial (Nat.le_of_ble_eq_true rfl) (Nat.le_of_ble_eq_true rfl) fun _ => rfl
  | .andIzx _ => .readMem _ _ .and rfl trivial (Nat.le_of_ble_eq_true rfl) (Nat.le_of_ble_eq_true rfl) fun _ => rfl
  | .andIzy _ => .readMem _ _ .and rfl trivial (Nat.le_of_ble_eq_true rfl) (Nat.le_of_ble_eq_true rfl) fun _ => rfl
  | .oraImm v => .readImm v _ .ora rfl rfl fun _ => rfl
  | .oraZp _ => .readMem _ _ .ora rfl trivial (Nat.le_of_ble_eq_true rfl) (Nat.le_of_ble_eq_true rfl) fun _ => rfl
  | .oraZpx _ => .readMem _ _ .ora rfl trivial (Nat.le_of_ble_eq_true rfl) (Nat.le_of_ble_eq_true rfl) fun _ => rfl
  | .oraAbs _ => .readMem _ _ .ora rfl trivial (Nat.le_of_ble_eq_true rfl) (Nat.le_of_ble_eq_true rfl) fun _ => rfl
  | .oraAbx _ => .readMem _ _ .ora rfl trivial (Nat.le_of_ble_eq_true rfl) (Nat.le_of_ble_eq_true rfl) fun _ => rfl
  | .oraAby _ => .readMem _ _ .ora rfl trivial (Nat.le_of_ble_eq_true rfl) (Nat.le_of_ble_eq_true rfl) fun _ => rfl
  | .oraIzx _ => .readMem _ _ .ora rfl trivial (Nat.le_of_ble_eq_true rfl) (Nat.le_of_ble_eq_true rfl) fun _ => rfl
  | .oraIzy _ => .readMem _ _ .ora rfl trivial (Nat.le_of_ble_eq_true rfl) (Nat.le_of_ble_eq_true rfl) fun _ => rfl
  | .eorImm v => .readImm v _ .eor rfl rfl fun _ => rfl
  | .eorZp _ => .readMem _ _ .eor rfl trivial (Nat.le_of_ble_eq_true rfl) (Nat.le_of_ble_eq_true rfl) fun _ => rfl
  | .eorZpx _ => .readMem _ _ .eor rfl trivial (Nat.le_of_ble_eq_true rfl) (Nat.le_of_ble_eq_true rfl) fun _ => rfl
  | .eorAbs _ => .readMem _ _ .eor rfl trivial (Nat.le_of_ble_eq_true rfl) (Nat.le_of_ble_eq_true rfl) fun _ => rfl
  | .eorAbx _ => .readMem _ _ .eor rfl trivial (Nat.le_of_ble_eq_true rfl) (Nat.le_of_ble_eq_true rfl) fun _ => rfl
  | .eorAby _ => .readMem _ _ .eor rfl trivial (Nat.le_of_ble_eq_true rfl) (Nat.le_of_ble_eq_true rfl) fun _ => rfl
  | .eorIzx _ => .readMem _ _ .eor rfl trivial (Nat.le_of_ble_eq_true rfl) (Nat.le_of_ble_eq_true rfl) fun _ => rfl
  | .eorIzy _ => .readMem _ _ .eor rfl trivial (Nat.le_of_ble_eq_true rfl) (Nat.le_of_ble_eq_true rfl) fun _ => rfl
  | .bitZp _ => .readMem _ _ .bit rfl trivial (Nat.le_of_ble_eq_true rfl) (Nat.le_of_ble_eq_true rfl) fun _ => rfl
  | .bitAbs _ => .readMem _ _ .bit rfl trivial (Nat.le_of_ble_eq_true rfl) (Nat.le_of_ble_eq_true rfl) fun _ => rfl
  | .cmpImm v => .readImm v _ .cmp rfl rfl fun _ => rfl
  | .cmpZp _ => .readMem _ _ .cmp rfl trivial (Nat.le_of_ble_eq_true rfl) (Nat.le_of_ble_eq_true rfl) fun _ => rfl
  | .cmpZpx _ => .readMem _ _ .cmp rfl trivial (Nat.le_of_ble_eq_true rfl) (Nat.le_of_ble_eq_true rfl) fun _ => rfl
  | .cmpAbs _ => .readMem _ _ .cmp rfl trivial (Nat.le_of_ble_eq_true rfl) (Nat.le_of_ble_eq_true rfl) fun _ => rfl
  | .cmpAbx _ => .readMem _ _ .cmp rfl trivial (Nat.le_of_ble_eq_true rfl) (Nat.le_of_ble_eq_true rfl) fun _ => rfl
  | .cmpAby _ => .readMem _ _ .cmp rfl trivial (Nat.le_of_ble_eq_true rfl) (Nat.le_of_ble_eq_true rfl) fun _ => rfl
  | .cmpIzx _ => .readMem _ _ .cmp rfl trivial (Nat.le_of_ble_eq_true rfl) (Nat.le_of_ble_eq_true rfl) fun _ => rfl
  | .cmpIzy _ => .readMem _ _ .cmp rfl trivial (Nat.le_of_ble_eq_true rfl) (Nat.le_of_ble_eq_true rfl) fun _ => rfl
  | .cpxImm v => .readImm v _ .cpx rfl rfl fun _ => rfl
  | .cpxZp _ => .readMem _ _ .cpx rfl trivial (Nat.le_of_ble_eq_true rfl) (Nat.le_of_ble_eq_true rfl) fun _ => rfl
  | .cpxAbs _ => .readMem _ _ .cpx rfl trivial (Nat.le_of_ble_eq_true rfl) (Nat.le_of_ble_eq_true rfl) fun _ => rfl
  | .cpyImm v => .readImm v _ .cpy rfl rfl fun _ => rfl
  | .cpyZp _ => .readMem _ _ .cpy rfl trivial (Nat.le_of_ble_eq_true rfl) (Nat.le_of_ble_eq_true rfl) fun _ => rfl
  | .cpyAbs _ => .readMem _ _ .cpy rfl trivial (Nat.le_of_ble_eq_true rfl) (Nat.le_of_ble_eq_true rfl) fun _ => rfl
  | .incZp _ => .countMem _ _ .inc rfl trivial (Nat.le_of_ble_eq_true rfl) (Nat.le_of_ble_eq_true rfl) fun _ => rfl
  | .incZpx _ => .countMem _ _ .inc rfl trivial (Nat.le_of_ble_eq_true rfl) (Nat.le_of_ble_eq_true rfl) fun _ => rfl
  | .incAbs _ => .countMem _ _ .inc rfl trivial (Nat.le_of_ble_eq_true rfl) (Nat.le_of_ble_eq_true rfl) fun _ => rfl
  | .incAbx _ => .countMem _ _ .inc rfl trivial (Nat.le_of_ble_eq_true rfl) (Nat.le_of_ble_eq_true rfl) fun _ => rfl
  | .decZp _ => .countMem _ _ .dec rfl trivial (Nat.le_of_ble_eq_true rfl) (Nat.le_of_ble_eq_true rfl) fun _ => rfl
  | .decZpx _ => .countMem _ _ .dec rfl trivial (Nat.le_of_ble_eq_true rfl) (Nat.le_of_ble_eq_true rfl) fun _ => rfl
  | .decAbs _ => .countMem _ _ .dec rfl trivial (Nat.le_of_ble_eq_true rfl) (Nat.le_of_ble_eq_true rfl) fun _ => rfl
  | .decAbx _ => .countMem _ _ .dec rfl trivial (Nat.le_of_ble_eq_true rfl) (Nat.le_of_ble_eq_true rfl) fun _ => rfl
  | .inx => .implied _ .inx rfl fun _ => rfl
  | .iny => .implied _ .iny rfl fun _ => rfl
  | .dex => .implied _ .dex rfl fun _ => rfl
  | .dey => .implied _ .dey rfl fun _ => rfl
  | .aslAcc => .shiftAcc _ .asl rfl fun _ => rfl
  | .aslZp _ => .shiftMem _ _ .asl rfl trivial (Nat.le_of_ble_eq_true rfl) (Nat.le_of_ble_eq_true rfl) fun _ => rfl
  | .aslZpx _ => .shiftMem _ _ .asl rfl trivial (Nat.le_of_ble_eq_true rfl) (Nat.le_of_ble_eq_true rfl) fun _ => rfl
  | .aslAbs _ => .shiftMem _ _ .asl rfl trivial (Nat.le_of_ble_eq_true rfl) (Nat.le_of_ble_eq_true rfl) fun _ => rfl
  | .aslAbx _ => .shiftMem _ _ .asl rfl trivial (Nat.le_of_ble_eq_true rfl) (Nat.le_of_ble_eq_true rfl) fun _ => rfl
  | .lsrAcc => .shiftAcc _ .lsr rfl fun _ => rfl
  | .lsrZp _ => .shiftMem _ _ .lsr rfl trivial (Nat.le_of_ble_eq_true rfl) (Nat.le_of_ble_eq_true rfl) fun _ => rfl
  | .lsrZpx _ => .shiftMem _ _ .lsr rfl trivial (Nat.le_of_ble_eq_true rfl) (Nat.le_of_ble_eq_true rfl) fun _ => rfl
  | .lsrAbs _ => .shiftMem _ _ .lsr rfl trivial (Nat.le_of_ble_eq_true rfl) (Nat.le_of_ble_eq_true rfl) fun _ => rfl
  | .lsrAbx _ => .shiftMem _ _ .lsr rfl trivial (Nat.le_of_ble_eq_true rfl) (Nat.le_of_ble_eq_true rfl) fun _ => rfl
  | .rolAcc => .shiftAcc _ .rol rfl fun _ => rfl
  | .rolZp _ => .shiftMem _ _ .rol rfl trivial (Nat.le_of_ble_eq_true rfl) (Nat.le_of_ble_eq_true rfl) fun _ => rfl
  | .rolZpx _ => .shiftMem _ _ .rol rfl trivial (Nat.le_of_ble_eq_true rfl) (Nat.le_of_ble_eq_true rfl) fun _ => rfl
  | .rolAbs _ => .shiftMem _ _ .rol rfl trivial (Nat.le_of_ble_eq_true rfl) (Nat.le_of_ble_eq_true rfl) fun _ => rfl
  | .rolAbx _ => .shiftMem _ _ .rol rfl trivial (Nat.le_of_ble_eq_true rfl) (Nat.le_of_ble_eq_true rfl) fun _ => rfl
  | .rorAcc => .shiftAcc _ .ror rfl fun _ => rfl
  | .rorZp _ => .shiftMem _ _ .ror rfl trivial (Nat.le_of_ble_eq_true rfl) (Nat.le_of_ble_eq_true rfl) fun _ => rfl
  | .rorZpx _ => .shiftMem _ _ .ror rfl trivial (Nat.le_of_ble_eq_true rfl) (Nat.le_of_ble_eq_true rfl) fun _ => rfl
  | .rorAbs _ => .shiftMem _ _ .ror rfl trivial (Nat.le_of_ble_eq_true rfl) (Nat.le_of_ble_eq_true rfl) fun _ => rfl
  | .rorAbx _ => .shiftMem _ _ .ror rfl trivial (Nat.le_of_ble_eq_true rfl) (Nat.le_of_ble_eq_true rfl) fun _ => rfl
  | .jmpAbs w => .jmpAbs w rfl
  | .jmpInd w => .jmpInd w rfl
  | .jsr w => .jsr w rfl
  | .rts => .rts rfl
  | .brk => .brk rfl
  | .rti => .rti rfl
  | .bcc d => .branch d _ .bcc rfl fun _ => rfl
  | .bcs d => .branch d _ .bcs rfl fun _ => rfl
  | .beq d => .branch d _ .beq rfl fun _ => rfl
  | .bne d => .branch d _ .bne rfl fun _ => rfl
  | .bmi d => .branch d _ .bmi rfl fun _ => rfl
  | .bpl d => .branch d _ .bpl rfl fun _ => rfl
  | .bvc d => .branch d _ .bvc rfl fun _ => rfl
  | .bvs d => .branch d _ .bvs rfl fun _ => rfl
  | .clc => .implied _ .clc rfl fun _ => rfl
  | .sec => .implied _ .sec rfl fun _ => rfl
  | .cli => .implied _ .cli rfl fun _ => rfl
  | .sei => .implied _ .sei rfl fun _ => rfl
  | .cld => .implied _ .cld rfl fun _ => rfl
  | .sed => .implied _ .sed rfl fun _ => rfl
  | .clv => .implied _ .clv rfl fun _ => rfl
  | .nop => .implied _ .nop rfl fun _ => rfl
  | .jam02 => .jam rfl rfl fun _ => rfl
  | .jam12 => .jam rfl rfl fun _ => rfl
  | .jam22 => .jam rfl rfl fun _ => rfl
  | .jam32 => .jam rfl rfl fun _ => rfl
  | .jam42 => .jam rfl rfl fun _ => rfl
  | .jam52 => .jam rfl rfl fun _ => rfl
  | .jam62 => .jam rfl rfl fun _ => rfl
  | .jam72 => .jam rfl rfl fun _ => rfl
  | .jam92 => .jam rfl rfl fun _ => rfl
  | .jamB2 => .jam rfl rfl fun _ => rfl
  | .jamD2 => .jam rfl rfl fun _ => rfl
  | .jamF2 => .jam rfl rfl fun _ => rfl

end Sys2Proof.Machine
end

