-- ==== Sys2Proof/Laws/Classes.lean ====
section
/-! SUPPORT. What each shared operation of the operand-use classes has done when it answers a next state, and what
the effects of each class can change. -/

namespace Sys2Proof.Machine

/-- A data mode resolves in every state, and changes nothing (R64, R79). -/
theorem resolve_dataMode {m : Address} (h : dataMode m) (s : State) : ∃ r, resolve m s = .ok r s := by
  cases m with
  | izx b => exact ⟨_, resolve_izx b s⟩
  | izy b => exact ⟨_, resolve_izy b s⟩
  | ind _ => exact h.elim
  | rel _ => exact h.elim
  | _ => exact ⟨_, rfl⟩

/-- The read class: one data read at EA, then the effect (R79). -/
theorem readMem_next {m : Address} {c : Nat} {f : Byte → State → State} {s t : State} (hm : dataMode m)
    (h : readMem m c f s = .next t) :
    ∃ r v s1, resolve m s = .ok r s ∧ memRead r.ea s = .ok v s1 ∧
      t = ((f v s1).advance m.length).setCycles (c + r.extra) := by
  obtain ⟨r, e⟩ := resolve_dataMode hm s
  simp only [readMem, e, Res.bind_ok, finish_eq_next, Res.bind_eq_ok] at h
  obtain ⟨_, _, ⟨v, s1, h1, h2⟩, rfl⟩ := h
  cases h2
  exact ⟨r, v, s1, e, h1, rfl⟩

/-- The write class: one data write at EA (R79). -/
theorem writeMem_next {m : Address} {c : Nat} {v : Byte} {s t : State} (hm : dataMode m)
    (h : writeMem m c v s = .next t) :
    ∃ r s1, resolve m s = .ok r s ∧ memWrite r.ea v s = .ok () s1 ∧ t = (s1.advance m.length).setCycles c := by
  obtain ⟨r, e⟩ := resolve_dataMode hm s
  simp only [writeMem, e, Res.bind_ok, finish_eq_next, Res.bind_eq_ok] at h
  obtain ⟨_, _, ⟨_, s1, h1, h2⟩, rfl⟩ := h
  cases h2
  exact ⟨r, s1, e, h1, rfl⟩

/-- INC and DEC: one read of EA, one write, then the flags (R111, R112). -/
theorem countMem_next {m : Address} {c : Nat} {f : Byte → Byte} {s t : State} (hm : dataMode m)
    (h : countMem m c f s = .next t) :
    ∃ r v s1 s2, resolve m s = .ok r s ∧ memRead r.ea s = .ok v s1 ∧ memWrite r.ea (f v) s1 = .ok () s2 ∧
      t = ((s2.setFlags (s2.flags.setZN (f v))).advance m.length).setCycles c := by
  obtain ⟨r, e⟩ := resolve_dataMode hm s
  simp only [countMem, e, Res.bind_ok, finish_eq_next, Res.bind_eq_ok] at h
  obtain ⟨_, _, ⟨v, s1, h1, _, s2, h2, h3⟩, rfl⟩ := h
  cases h3
  exact ⟨r, v, s1, s2, e, h1, h2, rfl⟩

/-- The shifts and rotates on memory: one read of EA, the flags, then one write (R117). -/
theorem shiftMem_next {m : Address} {c : Nat} {f : Byte → Flags → Byte × Flags} {s t : State} (hm : dataMode m)
    (h : shiftMem m c f s = .next t) :
    ∃ r v s1 s2, resolve m s = .ok r s ∧ memRead r.ea s = .ok v s1 ∧
      memWrite r.ea (f v s1.flags).1 (s1.setFlags (f v s1.flags).2) = .ok () s2 ∧
      t = (s2.advance m.length).setCycles c := by
  obtain ⟨r, e⟩ := resolve_dataMode hm s
  simp only [shiftMem, e, Res.bind_ok, finish_eq_next, Res.bind_eq_ok] at h
  obtain ⟨_, _, ⟨v, s1, h1, _, s2, h2, h3⟩, rfl⟩ := h
  cases h3
  exact ⟨r, v, s1, s2, e, h1, h2, rfl⟩

/-- JMP: PC and what reading a pointer changes, nothing else (R122, R123). -/
theorem jump_next {m : Address} {c : Nat} {s t : State} (h : jump m c s = .next t) :
    ∃ r u, resolve m s = .ok r u ∧ ReadFrame s u ∧ t = (u.setPc r.ea).setCycles c := by
  simp only [jump, finish_eq_next, Res.bind_eq_ok] at h
  obtain ⟨_, _, ⟨r, u, h1, h2⟩, rfl⟩ := h
  cases h2
  exact ⟨r, u, h1, (resolve_frame h1).1, rfl⟩

/-- PHA and PHP never stop (R95, R96). -/
theorem pushByte_eq (v : Byte) (s : State) :
    pushByte v s = .next { s with
      mem := s.mem.write (0x100 + s.sp.toNat) v, sp := s.sp - 1, pc := s.pc + 1, cycles := 3 } := by
  unfold pushByte; rw [push_eq]; rfl

/-- PLA and PLP never stop (R97, R98). -/
theorem pullByte_eq (f : Byte → State → State) (s : State) :
    pullByte f s = .next (((f (s.mem.read (0x100 + (s.sp + 1).toNat)) { s with sp := s.sp + 1 }).advance 1).setCycles 4) := by
  unfold pullByte; rw [pull_eq]; rfl

/-- A branch never stops (R129). -/
theorem branch_eq (taken : Bool) (d : Int) (s : State) :
    branch taken d s = .next (if taken then
      { s with
        pc := s.pc + 2 + BitVec.ofInt 16 d
        cycles := 3 + if hi (s.pc + 2 + BitVec.ofInt 16 d) ≠ hi (s.pc + 2) then 1 else 0 }
      else { s with pc := s.pc + 2, cycles := 2 }) := by
  cases taken
  · rfl
  · simp only [branch, resolve, Res.bind_ok, Resolved.extra, decide_eq_true_eq, if_true]; rfl

/-- BRK, when it goes on, has read its vector from the cartridge (R44, R127). -/
theorem execBrk_next {s t : State} (h : execBrk s = .next t) :
    t = { entered (s.pc + 2) true s with pc := t.pc, cart := t.cart, cycles := 7 } ∧ ReadFrame (entered (s.pc + 2) true s)
      { entered (s.pc + 2) true s with cart := t.cart } := by
  simp only [execBrk, finish_eq_next, Res.bind_eq_ok, enterInterrupt_eq] at h
  obtain ⟨_, _, ⟨_, _, ⟨_, _, h1, h2⟩, h3⟩, rfl⟩ := h
  cases h2; cases h3
  simp only [memRead16, Res.bind_eq_ok] at h1
  obtain ⟨_, u1, r1, _, u2, r2, r3⟩ := h1
  cases r3
  have f := (memRead_frame r1).trans (memRead_frame r2)
  obtain ⟨c1, -, rfl⟩ := memRead_cart r1 (by decide)
  obtain ⟨c2, -, rfl⟩ := memRead_cart r2 (by decide)
  exact ⟨rfl, f⟩

/-- The NMI sequence, when it goes on: the entry, then what reading the vector changes (R150). -/
theorem nmiSeq_next {s t : State} (h : nmiSeq s = .next t) :
    ∃ u, ReadFrame (entered s.pc false { s with nmiPending := false }) u ∧ t = { u with pc := t.pc, cycles := 7 } := by
  simp only [nmiSeq, finish_eq_next, Res.bind_eq_ok, enterInterrupt_eq] at h
  obtain ⟨_, _, ⟨_, _, ⟨_, u, h1, h2⟩, h3⟩, rfl⟩ := h
  cases h2; cases h3
  exact ⟨u, memRead16_frame h1, rfl⟩

/-- The reset sequence, when it goes on (R149). -/
theorem resetSeq_next {s t : State} (h : resetSeq s = .next t) :
    ∃ u, ReadFrame { s with resetPending := false, sp := s.sp - 3 } u ∧
      t = { u with pc := t.pc, flags := { u.flags with i := true }, cycles := 7 } := by
  simp only [resetSeq, finish_eq_next, Res.bind_eq_ok] at h
  obtain ⟨_, _, ⟨_, u, h1, h2⟩, rfl⟩ := h
  cases h2
  exact ⟨u, memRead16_frame h1, rfl⟩

/-- A read effect writes A, X, Y and flags only. -/
theorem ReadEffect.frame {k : Mnemonic} {f : Byte → State → State} (h : ReadEffect k f) (v : Byte) (s : State) :
    f v s = { s with a := (f v s).a, x := (f v s).x, y := (f v s).y, flags := (f v s).flags } := by
  cases h <;> rfl

/-- A one-byte register instruction writes A, X, Y, S and flags only. -/
theorem ImpliedEffect.frame {k : Mnemonic} {f : State → State} (h : ImpliedEffect k f) (s : State) :
    f s = { s with a := (f s).a, x := (f s).x, y := (f s).y, sp := (f s).sp, flags := (f s).flags } := by
  cases h <;> rfl

/-- A pull effect writes A and flags only. -/
theorem PullEffect.frame {k : Mnemonic} {f : Byte → State → State} (h : PullEffect k f) (v : Byte) (s : State) :
    f v s = { s with a := (f v s).a, flags := (f v s).flags } := by
  cases h <;> rfl

end Sys2Proof.Machine
end

