-- ==== Sys2Proof/Laws/Decode.lean ====
section
/-! SUPPORT. The opcode map read backwards: what it selects for an opcode byte is well-formed and encodes to that
byte and its operand bytes. -/

namespace Sys2Proof

/-- A map entry is sound for an opcode byte. -/
def ShapeSound (op : Byte) : Option Shape → Prop
  | some (.op0 i) => i.wellFormed = true ∧ encode i = [op]
  | some (.op1 make) => ∀ b, (make b).wellFormed = true ∧ encode (make b) = [op, b]
  | some (.op2 make) => ∀ w, (make w).wellFormed = true ∧ encode (make w) = [op, lo w, hi w]
  | none => True

/-- A signed byte is a displacement that fits (R56, R63). -/
theorem dispFits_toInt (b : Byte) : dispFits b.toInt = true := by
  have h1 := b.toInt_lt
  have h2 := b.le_toInt
  simp only [dispFits, decide_eq_true_eq]
  omega

/-- The operand byte of a branch is its displacement's. -/
theorem encode_disp (op b : Byte) : [op, BitVec.ofInt 8 b.toInt] = [op, b] := by rw [BitVec.ofInt_toInt]

theorem mapRow0_sound (low : Nat) : ShapeSound (BitVec.ofNat 8 (0x00 + low)) (mapRow0 low) := by
  unfold mapRow0
  split <;> first
    | exact trivial
    | exact ⟨rfl, rfl⟩
    | exact fun _ => ⟨rfl, rfl⟩

theorem mapRow1_sound (low : Nat) : ShapeSound (BitVec.ofNat 8 (0x10 + low)) (mapRow1 low) := by
  unfold mapRow1
  split <;> first
    | exact trivial
    | exact ⟨rfl, rfl⟩
    | exact fun _ => ⟨rfl, rfl⟩
    | exact fun b => ⟨dispFits_toInt b, encode_disp _ b⟩

theorem mapRow2_sound (low : Nat) : ShapeSound (BitVec.ofNat 8 (0x20 + low)) (mapRow2 low) := by
  unfold mapRow2
  split <;> first
    | exact trivial
    | exact ⟨rfl, rfl⟩
    | exact fun _ => ⟨rfl, rfl⟩

theorem mapRow3_sound (low : Nat) : ShapeSound (BitVec.ofNat 8 (0x30 + low)) (mapRow3 low) := by
  unfold mapRow3
  split <;> first
    | exact trivial
    | exact ⟨rfl, rfl⟩
    | exact fun _ => ⟨rfl, rfl⟩
    | exact fun b => ⟨dispFits_toInt b, encode_disp _ b⟩

theorem mapRow4_sound (low : Nat) : ShapeSound (BitVec.ofNat 8 (0x40 + low)) (mapRow4 low) := by
  unfold mapRow4
  split <;> first
    | exact trivial
    | exact ⟨rfl, rfl⟩
    | exact fun _ => ⟨rfl, rfl⟩

theorem mapRow5_sound (low : Nat) : ShapeSound (BitVec.ofNat 8 (0x50 + low)) (mapRow5 low) := by
  unfold mapRow5
  split <;> first
    | exact trivial
    | exact ⟨rfl, rfl⟩
    | exact fun _ => ⟨rfl, rfl⟩
    | exact fun b => ⟨dispFits_toInt b, encode_disp _ b⟩

theorem mapRow6_sound (low : Nat) : ShapeSound (BitVec.ofNat 8 (0x60 + low)) (mapRow6 low) := by
  unfold mapRow6
  split <;> first
    | exact trivial
    | exact ⟨rfl, rfl⟩
    | exact fun _ => ⟨rfl, rfl⟩

theorem mapRow7_sound (low : Nat) : ShapeSound (BitVec.ofNat 8 (0x70 + low)) (mapRow7 low) := by
  unfold mapRow7
  split <;> first
    | exact trivial
    | exact ⟨rfl, rfl⟩
    | exact fun _ => ⟨rfl, rfl⟩
    | exact fun b => ⟨dispFits_toInt b, encode_disp _ b⟩

theorem mapRow8_sound (low : Nat) : ShapeSound (BitVec.ofNat 8 (0x80 + low)) (mapRow8 low) := by
  unfold mapRow8
  split <;> first
    | exact trivial
    | exact ⟨rfl, rfl⟩
    | exact fun _ => ⟨rfl, rfl⟩

theorem mapRow9_sound (low : Nat) : ShapeSound (BitVec.ofNat 8 (0x90 + low)) (mapRow9 low) := by
  unfold mapRow9
  split <;> first
    | exact trivial
    | exact ⟨rfl, rfl⟩
    | exact fun _ => ⟨rfl, rfl⟩
    | exact fun b => ⟨dispFits_toInt b, encode_disp _ b⟩

theorem mapRowA_sound (low : Nat) : ShapeSound (BitVec.ofNat 8 (0xA0 + low)) (mapRowA low) := by
  unfold mapRowA
  split <;> first
    | exact trivial
    | exact ⟨rfl, rfl⟩
    | exact fun _ => ⟨rfl, rfl⟩

theorem mapRowB_sound (low : Nat) : ShapeSound (BitVec.ofNat 8 (0xB0 + low)) (mapRowB low) := by
  unfold mapRowB
  split <;> first
    | exact trivial
    | exact ⟨rfl, rfl⟩
    | exact fun _ => ⟨rfl, rfl⟩
    | exact fun b => ⟨dispFits_toInt b, encode_disp _ b⟩

theorem mapRowC_sound (low : Nat) : ShapeSound (BitVec.ofNat 8 (0xC0 + low)) (mapRowC low) := by
  unfold mapRowC
  split <;> first
    | exact trivial
    | exact ⟨rfl, rfl⟩
    | exact fun _ => ⟨rfl, rfl⟩

theorem mapRowD_sound (low : Nat) : ShapeSound (BitVec.ofNat 8 (0xD0 + low)) (mapRowD low) := by
  unfold mapRowD
  split <;> first
    | exact trivial
    | exact ⟨rfl, rfl⟩
    | exact fun _ => ⟨rfl, rfl⟩
    | exact fun b => ⟨dispFits_toInt b, encode_disp _ b⟩

theorem mapRowE_sound (low : Nat) : ShapeSound (BitVec.ofNat 8 (0xE0 + low)) (mapRowE low) := by
  unfold mapRowE
  split <;> first
    | exact trivial
    | exact ⟨rfl, rfl⟩
    | exact fun _ => ⟨rfl, rfl⟩

theorem mapRowF_sound (low : Nat) : ShapeSound (BitVec.ofNat 8 (0xF0 + low)) (mapRowF low) := by
  unfold mapRowF
  split <;> first
    | exact trivial
    | exact ⟨rfl, rfl⟩
    | exact fun _ => ⟨rfl, rfl⟩
    | exact fun b => ⟨dispFits_toInt b, encode_disp _ b⟩

/-- The entry of a map row is the entry of the opcode byte in that row. -/
theorem ShapeSound.of_row {op : Byte} {h : Nat} {entry : Option Shape} (hh : op.toNat / 16 = h)
    (sound : ShapeSound (BitVec.ofNat 8 (16 * h + op.toNat % 16)) entry) : ShapeSound op entry := by
  have e : BitVec.ofNat 8 (16 * h + op.toNat % 16) = op := by
    apply BitVec.eq_of_toNat_eq
    have := op.isLt
    rw [BitVec.toNat_ofNat]
    omega
  rwa [e] at sound

/-- Every entry of the opcode map is sound for its opcode byte (R57). -/
theorem opcodeShape_sound (op : Byte) : ShapeSound op (opcodeShape op) := by
  unfold opcodeShape
  dsimp only
  split
  · next hh => exact .of_row hh (mapRow0_sound _)
  · next hh => exact .of_row hh (mapRow1_sound _)
  · next hh => exact .of_row hh (mapRow2_sound _)
  · next hh => exact .of_row hh (mapRow3_sound _)
  · next hh => exact .of_row hh (mapRow4_sound _)
  · next hh => exact .of_row hh (mapRow5_sound _)
  · next hh => exact .of_row hh (mapRow6_sound _)
  · next hh => exact .of_row hh (mapRow7_sound _)
  · next hh => exact .of_row hh (mapRow8_sound _)
  · next hh => exact .of_row hh (mapRow9_sound _)
  · next hh => exact .of_row hh (mapRowA_sound _)
  · next hh => exact .of_row hh (mapRowB_sound _)
  · next hh => exact .of_row hh (mapRowC_sound _)
  · next hh => exact .of_row hh (mapRowD_sound _)
  · next hh => exact .of_row hh (mapRowE_sound _)
  · next hh => exact .of_row hh (mapRowF_sound _)
  · exact trivial

/-- What follows an instruction's bytes does not change how they decode. -/
theorem decode_append {bs rest : List Byte} {i : Instr} (h : decode bs = .ok (i, [])) :
    decode (bs ++ rest) = .ok (i, rest) := by
  cases bs with
  | nil => cases h
  | cons op tl =>
    simp only [decode, List.cons_append] at h ⊢
    cases heq : opcodeShape op with
    | none => rw [heq] at h; cases h
    | some shape =>
      rw [heq] at h
      cases shape with
      | op0 _ => cases h; rfl
      | op1 mk =>
        cases tl with
        | nil => cases h
        | cons a t => simp only [Except.ok.injEq, Prod.mk.injEq] at h; obtain ⟨rfl, rfl⟩ := h; rfl
      | op2 mk =>
        cases tl with
        | nil => cases h
        | cons a t =>
          cases t with
          | nil => cases h
          | cons b t => simp only [Except.ok.injEq, Prod.mk.injEq] at h; obtain ⟨rfl, rfl⟩ := h; rfl

/-- What a decoded instruction says about the bytes it came from. -/
theorem decode_inversion {op : Byte} {tl rest : List Byte} {i : Instr} (h : decode (op :: tl) = .ok (i, rest)) :
    i.wellFormed = true ∧
      ∃ operands, encode i = op :: operands ∧ tl = operands ++ rest ∧ operands.length = operandCount op := by
  have k := opcodeShape_sound op
  unfold operandCount
  simp only [decode] at h
  cases heq : opcodeShape op with
  | none => rw [heq] at h; cases h
  | some shape =>
    rw [heq] at h k
    cases shape with
    | op0 _ => cases h; exact ⟨k.1, [], k.2, rfl, rfl⟩
    | op1 mk =>
      cases tl with
      | nil => cases h
      | cons a t =>
        simp only [Except.ok.injEq, Prod.mk.injEq] at h
        obtain ⟨rfl, rfl⟩ := h
        exact ⟨(k a).1, [a], (k a).2, rfl, rfl⟩
    | op2 mk =>
      cases tl with
      | nil => cases h
      | cons a t =>
        cases t with
        | nil => cases h
        | cons b t =>
          simp only [Except.ok.injEq, Prod.mk.injEq] at h
          obtain ⟨rfl, rfl⟩ := h
          refine ⟨(k _).1, [a, b], ?_, rfl, rfl⟩
          rw [(k _).2, lo_join, hi_join]

end Sys2Proof
end

