-- ==== Sys2Proof/Laws/Step.lean ====
section
/-! SUPPORT. The step: what the orchestrator adds around a CPU step, and what fetching can do. -/

namespace Sys2Proof.Machine

/-- Taking the host's inputs changes those and the reset latch, and nothing else (R178, R180). -/
theorem acceptHost_frame (s : State) :
    acceptHost s = { s with
      resetPending := s.resetPending || (acceptHost s).host.reset
      host := (acceptHost s).host
      hostScript := (acceptHost s).hostScript } := by
  unfold acceptHost; cases s.hostScript <;> rfl

@[simp] theorem acceptHost_a (s : State) : (acceptHost s).a = s.a := by rw [acceptHost_frame]
@[simp] theorem acceptHost_x (s : State) : (acceptHost s).x = s.x := by rw [acceptHost_frame]
@[simp] theorem acceptHost_y (s : State) : (acceptHost s).y = s.y := by rw [acceptHost_frame]
@[simp] theorem acceptHost_sp (s : State) : (acceptHost s).sp = s.sp := by rw [acceptHost_frame]
@[simp] theorem acceptHost_pc (s : State) : (acceptHost s).pc = s.pc := by rw [acceptHost_frame]
@[simp] theorem acceptHost_flags (s : State) : (acceptHost s).flags = s.flags := by rw [acceptHost_frame]
@[simp] theorem acceptHost_nmiPending (s : State) : (acceptHost s).nmiPending = s.nmiPending := by rw [acceptHost_frame]
@[simp] theorem acceptHost_halted (s : State) : (acceptHost s).halted = s.halted := by rw [acceptHost_frame]
@[simp] theorem acceptHost_fault (s : State) : (acceptHost s).fault = s.fault := by rw [acceptHost_frame]
@[simp] theorem acceptHost_mem (s : State) : (acceptHost s).mem = s.mem := by rw [acceptHost_frame]
@[simp] theorem acceptHost_io4017w (s : State) : (acceptHost s).io4017w = s.io4017w := by rw [acceptHost_frame]
@[simp] theorem acceptHost_video (s : State) : (acceptHost s).video = s.video := by rw [acceptHost_frame]
@[simp] theorem acceptHost_pad1 (s : State) : (acceptHost s).pad1 = s.pad1 := by rw [acceptHost_frame]
@[simp] theorem acceptHost_pad2 (s : State) : (acceptHost s).pad2 = s.pad2 := by rw [acceptHost_frame]
@[simp] theorem acceptHost_strobe (s : State) : (acceptHost s).strobe = s.strobe := by rw [acceptHost_frame]
@[simp] theorem acceptHost_cart (s : State) : (acceptHost s).cart = s.cart := by rw [acceptHost_frame]
@[simp] theorem acceptHost_cycles (s : State) : (acceptHost s).cycles = s.cycles := by rw [acceptHost_frame]
@[simp] theorem acceptHost_draws (s : State) : (acceptHost s).draws = s.draws := by rw [acceptHost_frame]
@[simp] theorem acceptHost_vramLog (s : State) : (acceptHost s).vramLog = s.vramLog := by rw [acceptHost_frame]

@[simp] theorem acceptHost_resetPending (s : State) :
    (acceptHost s).resetPending = (s.resetPending || (acceptHost s).host.reset) := by
  unfold acceptHost; cases s.hostScript <;> rfl

/-- At an instruction boundary with nothing before the fetch, the step fetches and executes (R148, R151). -/
theorem step_fetching {s : State} (h : s.fetching) : step s = afterCpuStep (execStep (acceptHost s)) := by
  obtain ⟨h0, h1, h2, h3⟩ := h
  simp [step, orchestrate, cpuStep, h0.1, h0.2, h1, h2, h3]

/-- What is left of an outcome's next state by the video ticks (R178). -/
theorem afterCpuStep_next {o : Out} {t : State} (h : afterCpuStep o = .next t) :
    ∃ u, o = .next u ∧ t = if u.halted then u else runVideo (3 * u.cycles) u := by
  cases o with
  | next u =>
    refine ⟨u, rfl, ?_⟩
    simp only [afterCpuStep] at h
    split at h <;> cases h <;> simp_all
  | fault f => cases h
  | refused r => cases h

/-- A fetch that is served gives as many bytes as it was asked for and changes devices only (R48). -/
theorem fetchBytes_frame {n : Nat} {a : Word} {s t : State} {bs : List Byte} (h : fetchBytes n a s = .ok bs t) :
    bs.length = n ∧ ReadFrame s t := by
  induction n generalizing a s t bs with
  | zero => cases h; exact ⟨rfl, .refl _⟩
  | succ n ih =>
    simp only [fetchBytes, Res.bind_eq_ok] at h
    obtain ⟨b, s1, h1, r, s2, h2, h3⟩ := h
    cases h3
    obtain ⟨e, f⟩ := ih h2
    exact ⟨by simp [e], (memRead_frame h1).trans f⟩

/-- Fetching an instruction changes devices only. -/
theorem fetchInstruction_frame {s t : State} {bs : List Byte} (h : fetchInstruction s = .ok bs t) : ReadFrame s t := by
  simp only [fetchInstruction, Res.bind_eq_ok] at h
  obtain ⟨_, _, h1, _, _, h2, h3⟩ := h
  cases h3
  exact (memRead_frame h1).trans (fetchBytes_frame h2).2

/-- An execution that answers a next state is the execution of a decoded instruction after its fetch (R151). -/
theorem execStep_next {s t : State} (h : execStep s = .next t) :
    ∃ bs s1 i rest, fetchInstruction s = .ok bs s1 ∧ decode bs = .ok (i, rest) ∧ exec i s1 = .next t := by
  unfold execStep at h
  split at h
  · cases h
  · next bs s1 h1 =>
    split at h
    · next i rest h2 => exact ⟨bs, s1, i, rest, h1, h2, h⟩
    · cases h
    · cases h

end Sys2Proof.Machine
end

