-- ==== Sys2Proof/Tests/Slice0.lean ====
section
/-! SUPPORT. Tests. Expected values are the spec's own: its encodings (30_encoding.md R56, R57, R63), the vectors of
95_test_vectors.md (cited by section), and the rules' examples. Then one witness for each statement of
Certificates/Slice0/Obligations.lean that has hypotheses. -/

namespace Sys2Proof.Tests

open Sys2Proof.Machine Sys2Proof.Claims

/-! ### Helpers -/

/-- The start state of 95_test_vectors.md: A = X = Y = 00, S = FD, P = 24, PC = 8000, reset done. -/
def start : State :=
  { State.reset with
    resetPending := false, sp := 0xFD, pc := 0x8000
    flags := { n := false, v := false, d := false, i := true, z := false, c := false } }

/-- A state with these bytes of code at PC. -/
def code (bytes : List Byte) (s : State) : State := placeBytes bytes s.pc s

/-- A state with byte `b` in RAM at `k`. -/
def ram (k : Nat) (b : Byte) (s : State) : State := { s with mem := s.mem.write k b }

/-- A state with byte `b` in the cartridge at `a`. -/
def rom (a : Word) (b : Byte) (s : State) : State := placeByte a b s

/-- A state with the flags that P = `p` gives. -/
def withP (p : Byte) (s : State) : State := { s with flags := Flags.ofByte p }

/-- What a projection of the next state of an outcome is. -/
def got {α : Type} (o : Out) (f : State → α) : Option α :=
  match o with
  | .next t => some (f t)
  | .fault _ | .refused _ => none

/-- The fault of an outcome, without the state it carries, and a projection of that state. -/
def stopped {α : Type} (o : Out) (f : State → α) : Option (FaultRecord × α) :=
  match o with
  | .fault (.unimplementedOpcode op pc t) => some (.unimplementedOpcode op pc, f t)
  | .fault (.unmappedAddress a t) => some (.unmappedAddress a, f t)
  | .next _ | .fault .alreadyHalted | .fault (.alreadyFaulted _) | .refused _ => none

/-- The value and a projection of the state of a bus access. -/
def answered {α β : Type} (r : Res α) (f : State → β) : Option (α × β) :=
  match r with
  | .ok v s => some (v, f s)
  | .unmapped _ _ => none

/-- A, P and the cycles of a step. -/
def apc (s : State) : Byte × Byte × Nat := (s.a, s.flags.toByte, s.cycles)

/-- X, P and the cycles of a step. -/
def xpc (s : State) : Byte × Byte × Nat := (s.x, s.flags.toByte, s.cycles)

/-! ### Well-formedness: a displacement that does not fit its byte is refused (R63) -/

theorem test_wellFormed_refuses_bcc :
    Instr.wellFormed (.bcc 128) = false ∧ Instr.wellFormed (.bcc (-129)) = false := by decide
theorem test_wellFormed_refuses_bcs :
    Instr.wellFormed (.bcs 128) = false ∧ Instr.wellFormed (.bcs (-129)) = false := by decide
theorem test_wellFormed_refuses_beq :
    Instr.wellFormed (.beq 128) = false ∧ Instr.wellFormed (.beq (-129)) = false := by decide
theorem test_wellFormed_refuses_bne :
    Instr.wellFormed (.bne 128) = false ∧ Instr.wellFormed (.bne (-129)) = false := by decide
theorem test_wellFormed_refuses_bmi :
    Instr.wellFormed (.bmi 128) = false ∧ Instr.wellFormed (.bmi (-129)) = false := by decide
theorem test_wellFormed_refuses_bpl :
    Instr.wellFormed (.bpl 128) = false ∧ Instr.wellFormed (.bpl (-129)) = false := by decide
theorem test_wellFormed_refuses_bvc :
    Instr.wellFormed (.bvc 128) = false ∧ Instr.wellFormed (.bvc (-129)) = false := by decide
theorem test_wellFormed_refuses_bvs :
    Instr.wellFormed (.bvs 128) = false ∧ Instr.wellFormed (.bvs (-129)) = false := by decide
theorem test_wellFormed_admits_the_bounds :
    Instr.wellFormed (.bcc 127) = true ∧ Instr.wellFormed (.bvs (-128)) = true := by decide

/-! ### Decoding, bit by bit from R54, R56 and R57. Every constructor's decoding from its own opcode byte is one lemma of
Laws/PerInstr.lean (`Laws.RoundTrip`). -/

theorem test_decode_load : decode [0b10101001, 0b00010000] = .ok (.ldaImm 0x10, []) := rfl
theorem test_decode_load_indexed_by_y : decode [0b10110110, 0b00010000] = .ok (.ldxZpy 0x10, []) := rfl
theorem test_decode_store : decode [0b10001101, 0b00000000, 0b00000010] = .ok (.staAbs 0x0200, []) := rfl
theorem test_decode_transfer : decode [0b10011010] = .ok (.txs, []) := rfl
theorem test_decode_stack : decode [0b01001000] = .ok (.pha, []) := rfl
theorem test_decode_add : decode [0b01111101, 0b00011111, 0b10000000] = .ok (.adcAbx 0x801F, []) := rfl
theorem test_decode_logic : decode [0b00110001, 0b00010000] = .ok (.andIzy 0x10, []) := rfl
theorem test_decode_bit : decode [0b00101100, 0b00000010, 0b00100000] = .ok (.bitAbs 0x2002, []) := rfl
theorem test_decode_compare : decode [0b11001001, 0b00000010] = .ok (.cmpImm 0x02, []) := rfl
theorem test_decode_increment : decode [0b11100110, 0b00010000] = .ok (.incZp 0x10, []) := rfl
theorem test_decode_shift : decode [0b00001010] = .ok (.aslAcc, []) := rfl
theorem test_decode_rotate : decode [0b00100110, 0b00000000] = .ok (.rolZp 0x00, []) := rfl
theorem test_decode_jump : decode [0b01101100, 0b00110100, 0b00010010] = .ok (.jmpInd 0x1234, []) := rfl
theorem test_decode_subroutine : decode [0b00100000, 0b00010000, 0b10000000] = .ok (.jsr 0x8010, []) := rfl
theorem test_decode_branch_backward : decode [0b11010000, 0b11111110] = .ok (.bne (-2), []) := rfl
theorem test_decode_branch_forward : decode [0b11010000, 0b01111111] = .ok (.bne 127, []) := rfl
theorem test_decode_flag : decode [0b00111000] = .ok (.sec, []) := rfl
theorem test_decode_brk : decode [0b00000000] = .ok (.brk, []) := rfl
theorem test_decode_jam : decode [0b11110010] = .ok (.jamF2, []) := rfl
theorem test_decode_refuses_unlisted : decode [0x89, 0x00] = .error (.unimplementedOpcode 0x89) := rfl
theorem test_decode_refuses_truncated : decode [0xAD, 0x34] = .error .truncated := rfl
theorem test_decode_table_word :
    decodeTableWord 24 0x1234AD = some (.ldaAbs 0x1234) ∧ decodeTableWord 8 0x4C = some (.jmpAbs 0) := ⟨rfl, rfl⟩
theorem test_encode_branch : encode (.beq (-2)) = [0xF0, 0xFE] := rfl

/-! ### Addressing modes (95_test_vectors.md 2.1) -/

theorem test_zpx_wraps :
    got (step (code [0xB5, 0xF0] (ram 0x10 0x77 (State.setX start 0x20)))) (fun t => (t.a, t.cycles)) = some (0x77, 4) := by decide
theorem test_zpy_wraps :
    got (step (code [0xB6, 0xFF] (ram 0x00 0x42 (State.setY start 0x01)))) (fun t => (t.x, t.cycles)) = some (0x42, 4) := by decide
theorem test_abx_crosses_into_a_video_register :
    got (step (code [0xBD, 0xFF, 0x20] (State.setX start 0x01))) (fun t => (t.a, t.flags.z, t.cycles)) = some (0x00, true, 5) := by decide
theorem test_aby_crosses :
    got (step (code [0xB9, 0xF0, 0x80] (rom 0x8110 0x5A (State.setY start 0x20)))) (fun t => (t.a, t.cycles)) = some (0x5A, 5) := by decide
theorem test_izx_pointer_wraps :
    got (step (code [0xA1, 0xFE] (ram 0xFF 0x34 (ram 0x00 0x02 (ram 0x234 0x99 (State.setX start 0x01)))))) apc = some (0x99, 0xA4, 6) := by decide
theorem test_izy_crosses :
    got (step (code [0xB1, 0xFF] (ram 0xFF 0xF8 (ram 0x00 0x01 (ram 0x208 0x5A (State.setY start 0x10)))))) (fun t => (t.a, t.cycles)) = some (0x5A, 6) := by decide
theorem test_izy_same_page :
    got (step (code [0xB1, 0xFF] (ram 0x00 0x03 (ram 0x301 0x5A (State.setY start 0x01))))) (fun t => (t.a, t.cycles)) = some (0x5A, 5) := by decide
theorem test_jmp_indirect_stays_in_the_page :
    got (step (code [0x6C, 0xFF, 0x02] (ram 0x200 0x90 (ram 0x300 0x70 start)))) (fun t => (t.pc, t.cycles)) = some (0x9000, 5) := by decide
theorem test_sta_abx_has_no_extra_cycle :
    got (step (code [0x9D, 0xFF, 0x20] (State.setX (State.setA start 0x33) 0x01))) (fun t => (t.video.ctrl, t.video.openBus, t.cycles)) = some (0x33, 0x33, 5) := by decide

/-! ### Loads, stores, transfers, stack (2.2, 2.3) -/

theorem test_lda_zero : got (step (code [0xA9, 0x00] (State.setA start 0x55))) apc = some (0x00, 0x26, 2) := by decide
theorem test_lda_negative : got (step (code [0xA9, 0x80] start)) apc = some (0x80, 0xA4, 2) := by decide
theorem test_ldx : got (step (code [0xA2, 0xFF] start)) xpc = some (0xFF, 0xA4, 2) := by decide
theorem test_tax : got (step (code [0xAA] (State.setX start 0x11))) xpc = some (0x00, 0x26, 2) := by decide
theorem test_txs_writes_no_flag :
    got (step (code [0x9A] (withP 0x26 start))) (fun t => (t.sp, t.flags.toByte)) = some (0x00, 0x26) := by decide
theorem test_tsx : got (step (code [0xBA] (State.setSp start 0x80))) xpc = some (0x80, 0xA4, 2) := by decide
theorem test_sta :
    got (step (code [0x8D, 0x00, 0x02] (State.setA start 0x5A))) (fun t => (t.peek 0x0200, t.flags.toByte, t.cycles)) = some (some 0x5A, 0x24, 4) := by decide
theorem test_stx_through_a_mirror :
    got (step (code [0x8E, 0x00, 0x08] (State.setX start 0x77))) (fun t => (t.mem, t.peek 0x0000)) = some ([(0x000, 0x77)], some 0x77) := by decide
theorem test_pha_wraps :
    got (step (code [0x48] (State.setSp (State.setA start 0x5A) 0x00))) (fun t => (t.peek 0x0100, t.sp, t.cycles)) = some (some 0x5A, 0xFF, 3) := by decide
theorem test_php :
    got (step (code [0x08] (withP 0xE7 start))) (fun t => (t.peek 0x01FD, t.sp, t.flags.toByte)) = some (some 0xF7, 0xFC, 0xE7) := by decide
theorem test_plp_zero :
    got (step (code [0x28] (State.setSp start 0xFC))) (fun t => (t.flags.toByte, t.sp, t.cycles)) = some (0x20, 0xFD, 4) := by decide
theorem test_plp_ignores_bit_4 :
    got (step (code [0x28] (ram 0x1FD 0xFF (State.setSp start 0xFC)))) (fun t => t.flags.toByte) = some 0xEF := by decide
theorem test_pla_wraps :
    got (step (code [0x68] (ram 0x100 0x80 (State.setSp start 0xFF)))) (fun t => (t.a, t.flags.n, t.sp, t.cycles)) = some (0x80, true, 0x00, 4) := by decide

/-! ### Arithmetic and logic (2.4) -/

theorem test_adc_overflow :
    got (step (code [0x69, 0x01] (withP 0x24 (State.setA start 0x7F)))) apc = some (0x80, 0xE4, 2) := by decide
theorem test_adc_carry_and_overflow :
    got (step (code [0x69, 0x80] (withP 0x24 (State.setA start 0x80)))) apc = some (0x00, 0x67, 2) := by decide
theorem test_sbc_borrow :
    got (step (code [0xE9, 0x01] (withP 0x25 (State.setA start 0x00)))) apc = some (0xFF, 0xA4, 2) := by decide
theorem test_sbc_overflow :
    got (step (code [0xE9, 0x80] (withP 0x24 (State.setA start 0x7F)))) apc = some (0xFE, 0xE4, 2) := by decide
theorem test_cmp_equal :
    got (step (code [0xC9, 0x30] (withP 0x24 (State.setA start 0x30)))) apc = some (0x30, 0x27, 2) := by decide
theorem test_cmp_wraps :
    got (step (code [0xC9, 0xFF] (withP 0x24 (State.setA start 0x00)))) apc = some (0x00, 0x24, 2) := by decide
theorem test_and :
    got (step (code [0x29, 0xF0] (withP 0x24 (State.setA start 0x0F)))) apc = some (0x00, 0x26, 2) := by decide
theorem test_ora :
    got (step (code [0x09, 0x0F] (withP 0x24 (State.setA start 0xF0)))) apc = some (0xFF, 0xA4, 2) := by decide
theorem test_eor :
    got (step (code [0x49, 0xFF] (withP 0x24 (State.setA start 0xF0)))) apc = some (0x0F, 0x24, 2) := by decide
theorem test_adc_ignores_decimal :
    got (step (code [0x69, 0x01] (withP 0x2C (State.setA start 0x09)))) apc = some (0x0A, 0x2C, 2) := by decide
theorem test_cpx : got (step (code [0xE0, 0x80] (State.setX start 0x7F))) xpc = some (0x7F, 0xA4, 2) := by decide
theorem test_cpy_carry :
    got (step (code [0xC0, 0x20] (State.setY start 0x30))) (fun t => (t.y, t.flags.toByte)) = some (0x30, 0x25) := by decide
theorem test_bit :
    got (step (code [0x24, 0x06] (ram 0x06 0xC0 (State.setA start 0x0F)))) apc = some (0x0F, 0xE6, 3) := by decide
theorem test_inc_wraps :
    got (step (code [0xE6, 0x40] (ram 0x40 0xFF start))) (fun t => (t.mem.read 0x40, t.flags.toByte, t.cycles)) = some (0x00, 0x26, 5) := by decide
theorem test_dec_wraps :
    got (step (code [0xC6, 0x40] start)) (fun t => (t.mem.read 0x40, t.flags.toByte)) = some (0xFF, 0xA4) := by decide
theorem test_inx_wraps : got (step (code [0xE8] (State.setX start 0xFF))) xpc = some (0x00, 0x26, 2) := by decide
theorem test_dey_wraps :
    got (step (code [0x88] start)) (fun t => (t.y, t.flags.toByte)) = some (0xFF, 0xA4) := by decide

/-! ### Shifts and rotates (2.5) -/

theorem test_asl : got (step (code [0x0A] (withP 0x24 (State.setA start 0x80)))) apc = some (0x00, 0x27, 2) := by decide
theorem test_lsr : got (step (code [0x4A] (withP 0x24 (State.setA start 0x01)))) apc = some (0x00, 0x27, 2) := by decide
theorem test_rol_takes_the_carry :
    got (step (code [0x2A] (withP 0x25 (State.setA start 0x00)))) apc = some (0x01, 0x24, 2) := by decide
theorem test_rol : got (step (code [0x2A] (withP 0x24 (State.setA start 0x80)))) apc = some (0x00, 0x27, 2) := by decide
theorem test_ror_takes_the_carry :
    got (step (code [0x6A] (withP 0x25 (State.setA start 0x00)))) apc = some (0x80, 0xA4, 2) := by decide
theorem test_ror : got (step (code [0x6A] (withP 0x24 (State.setA start 0x01)))) apc = some (0x00, 0x27, 2) := by decide
theorem test_asl_memory :
    got (step (code [0x06, 0x40] (ram 0x40 0x81 start))) (fun t => (t.mem.read 0x40, t.flags.toByte, t.cycles)) = some (0x02, 0x25, 5) := by decide

/-! ### Control transfer, flags, jam (2.6, 2.7) -/

theorem test_jmp :
    got (step (code [0x4C, 0xFF, 0xFF] start)) (fun t => (t.pc, t.cycles)) = some (0xFFFF, 3) := by decide
theorem test_jsr :
    got (step (code [0x20, 0xFF, 0x80] start)) (fun t => (t.peek 0x01FD, t.peek 0x01FC, t.sp, t.pc, t.cycles)) = some (some 0x80, some 0x02, 0xFB, 0x80FF, 6) := by decide
theorem test_rts_wraps :
    got (step (code [0x60] (ram 0x1FC 0xFF (ram 0x1FD 0xFF (State.setSp start 0xFB))))) (fun t => (t.pc, t.sp, t.cycles)) = some (0x0000, 0xFD, 6) := by decide
theorem test_rti :
    got (step (code [0x40] (ram 0x1FB 0xFF (ram 0x1FC 0x34 (ram 0x1FD 0x12 (State.setSp start 0xFA)))))) (fun t => (t.flags.toByte, t.pc, t.sp, t.cycles)) = some (0xEF, 0x1234, 0xFD, 6) := by decide
theorem test_brk :
    got (step (code [0x00] (rom 0xFFFF 0xA0 start))) (fun t => (t.mem, t.sp, t.pc, t.cycles)) = some ([(0x1FB, 0x34), (0x1FC, 0x02), (0x1FD, 0x80)], 0xFA, 0xA000, 7) := by decide
theorem test_beq_to_itself :
    got (step (code [0xF0, 0xFE] (withP 0x26 start))) (fun t => (t.pc, t.cycles)) = some (0x8000, 3) := by decide
theorem test_beq_not_taken :
    got (step (code [0xF0, 0xFE] start)) (fun t => (t.pc, t.cycles)) = some (0x8002, 2) := by decide
theorem test_bne_to_another_page :
    got (step (code [0xD0, 0x7F] (State.setPc start 0x80F0))) (fun t => (t.pc, t.cycles)) = some (0x8171, 4) := by decide
theorem test_bpl_backward :
    got (step (code [0x10, 0x80] start)) (fun t => (t.pc, t.cycles)) = some (0x7F82, 4) := by decide
theorem test_bmi_backward :
    got (step (code [0x30, 0xFB] (withP 0xA4 start))) (fun t => (t.pc, t.cycles)) = some (0x7FFD, 4) := by decide
theorem test_clc :
    got (step (code [0x18] (withP 0x25 start))) (fun t => (t.flags.toByte, t.cycles)) = some (0x24, 2) := by decide
theorem test_sei : got (step (code [0x78] (withP 0x20 start))) (fun t => t.flags.toByte) = some 0x24 := by decide
theorem test_nop :
    got (step (code [0xEA] start)) (fun t => (t.pc, t.flags.toByte, t.cycles)) = some (0x8001, 0x24, 2) := by decide
theorem test_jam_halts : got (step (code [0x02] start)) id = some { code [0x02] start with halted := true } := by decide

/-! ### Faults (2.8) -/

theorem test_unimplemented_opcode :
    stopped (step (code [0xFF] start)) (fun t => (t.pc, t.video.dot)) = some (.unimplementedOpcode 0xFF 0x8000, (0x8000, 0)) := by decide
theorem test_lda_unmapped :
    stopped (step (code [0xAD, 0x18, 0x40] start)) (fun t => (t.a, t.pc)) = some (.unmappedAddress 0x4018, (0x00, 0x8000)) := by decide
theorem test_lda_not_covered :
    stopped (step (code [0xAD, 0x00, 0x60] start)) State.pc = some (.unmappedAddress 0x6000, 0x8000) := by decide
theorem test_rom_write_is_ignored :
    got (step (code [0x8D, 0x00, 0x80] start)) (fun t => (t.peek 0x8000, t.cycles)) = some (some 0x8D, 4) := by decide

/-! ### Interrupt sequences (2.9) -/

theorem test_reset_sequence :
    got (step (rom 0xFFFD 0x80 State.reset)) (fun t => (t.pc, t.sp, t.flags.i, t.cycles, t.video.dot)) =
      some (0x8000, 0xFD, true, 7, 21) := by decide
theorem test_nmi_sequence :
    got (step (rom 0xFFFA 0x20 (rom 0xFFFB 0x80 { start with nmiPending := true, pc := 0x8123 })))
        (fun t => (t.mem, t.sp, t.flags.i, t.pc, t.nmiPending)) =
      some ([(0x1FB, 0x24), (0x1FC, 0x23), (0x1FD, 0x81)], 0xFA, true, 0x8020, false) := by decide
theorem test_reset_comes_before_nmi :
    got (step { start with nmiPending := true, resetPending := true }) (fun t => (t.nmiPending, t.resetPending, t.sp)) =
      some (true, false, 0xFA) := by decide

/-! ### Video unit and controllers (2.10, 2.11) -/

/-- A video unit at a position, with control `c`. -/
def videoAt (line dot : Nat) (c : Byte) : Video := { State.reset.video with scanline := line, dot := dot, ctrl := c }

theorem test_vblank_tick : (videoAt 241 0 0x80).tick = ({ videoAt 241 1 0x80 with vblank := true }, true) := rfl
theorem test_prerender_tick :
    ({ videoAt 261 0 0x80 with vblank := true } : Video).tick = (videoAt 261 1 0x80, false) := rfl
theorem test_frame_wraps : (videoAt 261 340 0).tick = (videoAt 0 0 0, false) := rfl
theorem test_status_read :
    answered (memRead 0x3FFA { start with video := { start.video with vblank := true, w := true, openBus := 0x55 } })
        (fun t => (t.video.vblank, t.video.w)) = some (0x80 ||| ((Config.spriteStatusBits 0).setWidth 8 <<< 5) ||| 0x15, (false, false)) := by
  have h : ∀ b : BitVec 2, (1#1 ++ b ++ (0x55#8).extractLsb' 0 5 : Byte) = 0x80 ||| (b.setWidth 8 <<< 5) ||| 0x15 := by decide
  exact congrArg (fun v => some (v, (false, false))) (h (Config.spriteStatusBits 0))
theorem test_address_writes :
    ((Video.regWrite start.video .addr 0xE1).vaddrHi = 0x21) ∧
      (Video.regWrite (Video.regWrite start.video .addr 0xE1) .addr 0x08).vaddr = 0x2108 := by decide
theorem test_data_write :
    (videoRegWrite .data 0x55 { start with video := { start.video with vaddr := 0x2108, ctrl := 0x04 } }).vramLog =
      [(0x2108, 0x55)] := by decide
theorem test_vaddr_wraps : ({ start.video with vaddr := 0x3FFF } : Video).nextVaddr = 0x0000 := by decide
theorem test_toggle_is_shared :
    (Video.regWrite (Video.regWrite start.video .scroll 0x10) .addr 0x20).vaddr = 0x0020 := by decide
theorem test_oam_write_wraps :
    (Video.regWrite { start.video with oamaddr := 0xFF } .oamData 0x12).oam = [(0xFF, 0x12)] ∧
      (Video.regWrite { start.video with oamaddr := 0xFF } .oamData 0x12).oamaddr = 0x00 := by decide
theorem test_controller_reads :
    readsOf 10 0x4016 { start with pad1 := { latch := 0x81, cursor := 0 } } =
      some [0x41, 0x40, 0x40, 0x40, 0x40, 0x40, 0x40, 0x41, 0x41, 0x41] := by decide
theorem test_strobe_held :
    readsOf 3 0x4016 { start with strobe := true, host := { start.host with buttons1 := 0x81 } } = some [0x41, 0x41, 0x41] := by decide
theorem test_read_past_the_end :
    readsOf 9 0x4017 { start with pad2 := { latch := 0x02, cursor := 0 } } =
      some [0x40, 0x40, 0x40, 0x40, 0x40, 0x40, 0x41, 0x40, 0x41] := by decide
theorem test_write_4017 :
    answered (memWrite 0x4017 0x01 start) (fun t => (t.io4017w, t.strobe)) = some ((), (0x01, false)) := by decide

/-! ### Placing an instruction -/

theorem test_withFetchWord_runs_first :
    got (step (State.reset.withFetchWord 16 0x5AA9)) (fun t => (t.a, t.pc)) = some (0x5A, 0x0002) := by decide

/-! ### Witnesses: a concrete input that meets the hypotheses of each statement that has any -/

/-- A cartridge with no window: it answers nothing. -/
def noCart : Cart := .windows []

/-- A cartridge that answers the first vector byte at `a` and not the one after it, and that refuses writes. -/
def halfCart (a : Word) : Cart :=
  .windows [{ first := a, last := a, size := 1, image := [], readable := true, onWrite := .refused }]

/-- A cartridge with 2 KiB of RAM, mirrored through 0x6000 to 0x7FFF, and the reference ROM above it. -/
def ramCart : Cart :=
  .windows [{ first := 0x6000, last := 0x7FFF, size := 0x800, image := [], readable := true, onWrite := .stored },
    { first := 0x8000, last := 0xFFFF, size := 16384, image := [], readable := true, onWrite := .ignored }]

/-- R42: a byte stored in cartridge RAM reads back at its mirror. -/
theorem test_cartridge_ram_stores :
    got (exec (.staAbs 0x7FFF) { start with a := 0x5A, cart := ramCart }) (·.peek 0x67FF) = some (some 0x5A) := by decide

/-- R43: a write to ROM is answered and ignored. -/
theorem test_cartridge_rom_ignores :
    got (exec (.staAbs 0x8000) { start with a := 0x5A, cart := ramCart }) (·.cart) = some ramCart := by decide

/-- R36, R42: a write the cartridge does not answer raises UnmappedAddress and leaves the cartridge. -/
theorem test_cartridge_refuses :
    stopped (exec (.staAbs 0x6000) { start with cart := halfCart 0x6000 }) (·.cart) =
      some (.unmappedAddress 0x6000, halfCart 0x6000) := by decide

theorem witness_DecodeOfEncode :
    Instr.wellFormed (.bcc (-128)) = true ∧ Instr.wellFormed (.bvs 127) = true ∧ Instr.wellFormed (.jmpInd 0xFFFF) = true := by
  decide

theorem witness_EncodeOfDecode : decode [0x90, 0x80, 0x00] = .ok (.bcc (-128), [0x00]) := rfl

/-- An LDA from a controller port, fetched from the cartridge. -/
theorem witness_StepRunsDecodedInstruction :
    (code [0xAD, 0x16, 0x40] start).fetching ∧
      (∃ s1, fetchBytes 3 0x8000 (acceptHost (code [0xAD, 0x16, 0x40] start)) = .ok [0xAD, 0x16, 0x40] s1) ∧
      decode [0xAD, 0x16, 0x40] = .ok (.ldaAbs 0x4016, []) := ⟨by decide, ⟨_, rfl⟩, rfl⟩

theorem witness_UnlistedOpcodeFaults :
    (code [0xFF] start).fetching ∧ (0xFF : Byte).toNat ∈ unlistedOpcodes ∧
      (∃ s1, memRead 0x8000 (acceptHost (code [0xFF] start)) = .ok 0xFF s1) := ⟨by decide, by decide, ⟨_, rfl⟩⟩

theorem witness_ControlStatesAndPriority :
    ({ start with halted := true } : State).fault = none ∧
      ({ start with fault := some (.unmappedAddress 0x4018) } : State).fault = some (.unmappedAddress 0x4018) ∧
      start.running ∧ State.reset.resetPending = true ∧ start.resetPending = false ∧ start.nmiPending = false ∧
      ({ start with nmiPending := true } : State).nmiPending = true := by decide

theorem witness_ResetSequence :
    (∃ c d, start.cart.read 0xFFFC = some (0x00, c) ∧ c.read 0xFFFD = some (0x00, d)) ∧ noCart.read 0xFFFC = none ∧
      (∃ c, (halfCart 0xFFFC).read 0xFFFC = some (0x00, c) ∧ c.read 0xFFFD = none) :=
  ⟨⟨_, _, rfl, rfl⟩, rfl, ⟨_, rfl, rfl⟩⟩

theorem witness_NmiSequence :
    ∃ c d, start.cart.read 0xFFFA = some (0x00, c) ∧ c.read 0xFFFB = some (0x00, d) := ⟨_, _, rfl, rfl⟩

/-- The host asserts reset before the first step and not before the second. -/
theorem witness_HostResetIsTakenAtTheNextStep :
    let asserted : HostInput := { reset := true, buttons1 := 0x00, buttons2 := 0x00 }
    let s : State := { start with nmiPending := true, hostScript := [asserted, { asserted with reset := false }] }
    s.running ∧ (acceptHost s).host.reset = true ∧
      (∃ c d, s.cart.read 0xFFFC = some (0x00, c) ∧ c.read 0xFFFD = some (0x00, d)) ∧
      (acceptHost (runVideo 21 (acceptHost s))).host.reset = false :=
  ⟨by decide, by decide, ⟨_, _, rfl, rfl⟩, by decide⟩

theorem witness_OrchestratorTicksThreePerCycle :
    start.running ∧ (∃ t, cpuStep (acceptHost (code [0xEA] start)) = .next t ∧ t.halted = false) ∧
      (∃ t, cpuStep (acceptHost (code [0x02] start)) = .next t ∧ t.halted = true) ∧
      (∃ f, cpuStep (acceptHost (code [0xFF] start)) = .fault f) :=
  ⟨by decide, ⟨_, rfl, rfl⟩, ⟨_, rfl, rfl⟩, ⟨_, rfl⟩⟩

theorem witness_FirstStepAfterPowerOn :
    ∃ c d, (rom 0xFFFD 0x80 start).cart.read 0xFFFC = some (0x00, c) ∧ c.read 0xFFFD = some (0x80, d) :=
  ⟨_, _, rfl, rfl⟩

theorem witness_FaultKeepsEarlierEffects :
    noCart.read 0xFFFE = none ∧ (∃ c, (halfCart 0xFFFE).read 0xFFFE = some (0x00, c) ∧ c.read 0xFFFF = none) ∧
      noCart.read 0xFFFA = none ∧ (∃ c, (halfCart 0xFFFA).read 0xFFFA = some (0x00, c) ∧ c.read 0xFFFB = none) :=
  ⟨rfl, ⟨_, rfl, rfl⟩, rfl, ⟨_, rfl, rfl⟩⟩

/-- An instruction that completes, and one that stops. -/
theorem witness_OnlyUnmappedAccessStopsAnInstruction :
    (∃ t, exec .nop start = .next t) ∧ ∃ t, exec (.ldaAbs 0x401F) start = .fault (.unmappedAddress 0x401F t) :=
  ⟨⟨_, rfl⟩, ⟨_, rfl⟩⟩

/-- Each clause, at the bounds of the gap, below the reference cartridge's window, and at a byte that can be read and not
written. -/
theorem witness_UnservedOperandStopsTheInstruction :
    (dataAddress (.abs 0x4018) start = some 0x4018 ∧ ReadUnserved 0x4018 start ∧ WriteUnserved 0x4018 0x00 start) ∧
    (dataAddress (.abx 0x401F) start = some 0x401F ∧ ReadUnserved 0x401F start) ∧
    (dataAddress (.abs 0x4020) start = some 0x4020 ∧ WriteUnserved 0x4020 start.a start) ∧
    (∃ s1, memRead 0x6000 { start with cart := halfCart 0x6000 } = .ok 0x00 s1 ∧ WriteUnserved 0x6000 0x01 s1 ∧
      WriteUnserved 0x6000 (shiftResult .rol 0x00 start.flags.c) s1) ∧
    ((Instr.ldaAbs 0x4018).row.operand = .mem (.abs 0x4018) ∧
      (Instr.ldaAbs 0x4018).row.mnemonic ∉ [Mnemonic.sta, .stx, .sty, .jmp, .jsr]) ∧
    (Instr.staAbs 0x4020).row.mnemonic ∈ [Mnemonic.sta, .stx, .sty] ∧
    (Instr.incAbs 0x6000).row.mnemonic ∈ [Mnemonic.inc, .dec] ∧
    (Instr.rolAbs 0x6000).row.mnemonic ∈ [Mnemonic.asl, .lsr, .rol, .ror] :=
  ⟨⟨rfl, .inl (by decide), .inl (by decide)⟩, ⟨rfl, .inl (by decide)⟩, ⟨rfl, .inr (by decide)⟩,
    ⟨_, rfl, .inr ⟨by decide, rfl⟩, .inr ⟨by decide, rfl⟩⟩, ⟨rfl, by decide⟩, by decide, by decide, by decide⟩

theorem witness_TickAdvancesThenExamines : InFrame (videoAt 241 0 0x80) ∧ InFrame (videoAt 261 340 0x00) := by
  constructor <;> constructor <;> decide

theorem witness_TicksAdvanceTheCounter : InFrame (videoAt 0 0 0x00) := by constructor <;> decide

theorem witness_VblankWithinOneFrame :
    (videoAt 0 0 0x00).scanline = 0 ∧ (videoAt 0 0 0x00).dot = 0 ∧ (videoAt 0 0 0x00).vblank = false ∧ 82182 < 89342 := by
  decide

theorem witness_NmiRaisedOnlyAtTheInstant :
    InFrame (videoAt 241 0 0x80) ∧ ((videoAt 241 0 0x80).ticks 1).2 = true := ⟨by constructor <;> decide, rfl⟩

/-- Every clause, at the first and the last video register address of its residue. -/
theorem witness_VideoRegisterReads :
    (0x2004 : Word).toNat % 8 = 4 ∧ (0x3FFC : Word).toNat % 8 = 4 ∧ (0x2000 : Word).toNat % 8 = 0 ∧
      (0x3FFE : Word).toNat % 8 = 6 ∧ 0x2000 ≤ (0x2000 : Word).toNat ∧ (0x3FFE : Word).toNat ≤ 0x3FFF := by decide

theorem witness_StatusAndDataRegisters :
    (0x2002 : Word).toNat % 8 = 2 ∧ (0x3FFA : Word).toNat % 8 = 2 ∧ (0x2007 : Word).toNat % 8 = 7 ∧
      (0x3FFF : Word).toNat % 8 = 7 ∧ 0x2000 ≤ (0x2002 : Word).toNat ∧ (0x3FFF : Word).toNat ≤ 0x3FFF := by decide

theorem witness_VideoRegisterWrites :
    (0x2000 : Word).toNat % 8 = 0 ∧ (0x3FF9 : Word).toNat % 8 = 1 ∧ (0x2002 : Word).toNat % 8 = 2 ∧
      (0x3FFB : Word).toNat % 8 = 3 ∧ (0x2004 : Word).toNat % 8 = 4 ∧ (0x3FFD : Word).toNat % 8 = 5 ∧
      (0x2006 : Word).toNat % 8 = 6 ∧ start.video.w = false ∧ (Video.regWrite start.video .addr 0x00).w = true := by
  decide

theorem witness_RouterRegions :
    (0x1FFF : Word).toNat ≤ 0x1FFF ∧ 0x2000 ≤ (0x2000 : Word).toNat ∧ (0x3FFF : Word).toNat ≤ 0x3FFF ∧
      0x4000 ≤ (0x4000 : Word).toNat ∧ (0x4015 : Word).toNat ≤ 0x4015 ∧ (0x4016 : Word).toNat = 0x4016 ∧
      (0x4017 : Word).toNat = 0x4017 ∧ 0x4018 ≤ (0x4018 : Word).toNat ∧ (0x401F : Word).toNat ≤ 0x401F ∧
      0x4020 ≤ (0x4020 : Word).toNat ∧ route 0x1FFF = .ram 0x7FF ∧ route 0x4015 = .io 0x4015 := by decide

theorem witness_RamIsMirrored : (0x0000 : Word).toNat ≤ 0x1FFF ∧ (0x1FFF : Word).toNat ≤ 0x1FFF := by decide

theorem witness_IoRegistersAreInertStorage : 0x4000 ≤ (0x4000 : Word).toNat ∧ (0x4015 : Word).toNat ≤ 0x4015 := by decide

theorem witness_GapIsUnmapped :
    0x4018 ≤ (0x4018 : Word).toNat ∧ (0x401F : Word).toNat ≤ 0x401F ∧ (State.setPc start 0x401F).fetching ∧
      (State.setPc start 0x401F).pc = 0x401F := by decide

/-- The first and last address of the view, and a byte stored, read back at its mirror and nowhere else. -/
theorem witness_CartridgeViewIsForwarded :
    0x4020 ≤ (0x4020 : Word).toNat ∧ 0x4020 ≤ (0xFFFF : Word).toNat ∧ (∃ ws w, ramCart = .windows ws ∧
      ws.find? (·.covers 0x7FFF) = some w ∧ w.readable = true ∧ w.onWrite = .stored) ∧
      (∃ t, memWrite 0x7FFF 0x5A { start with cart := ramCart } = .ok () t ∧ memRead 0x67FF t = .ok 0x5A t) ∧
      ramCart.sameByte 0x7FFF 0x67FE = false ∧ ramCart.sameByte 0x7FFF 0x67FF = true :=
  ⟨by decide, by decide, ⟨_, _, rfl, rfl, rfl, rfl⟩, ⟨_, rfl, rfl⟩, rfl, rfl⟩

theorem witness_ReferenceCartridge :
    start.cart = Cart.reference [] 16384 ∧ ({ start with cart := Cart.reference [] 32768 } : State).cart = Cart.reference [] 32768 ∧
      0x8000 ≤ (0x8000 : Word).toNat ∧ 0x8000 ≤ (0xFFFF : Word).toNat ∧ 0x4020 ≤ (0x4020 : Word).toNat ∧
      (0x7FFF : Word).toNat < 0x8000 := by decide

theorem witness_StrobeWrite :
    (0x01 : Byte).getLsbD 0 = true ∧ (0xFE : Byte).getLsbD 0 = false ∧ ({ start with strobe := true } : State).strobe = true ∧
      start.strobe = false := by decide

/-- The cursor at 0, at 7 and at 8, with the strobe low; and the strobe high. -/
theorem witness_ControllerReads :
    start.strobe = false ∧ start.pad1.cursor ≤ 7 ∧ start.pad2.cursor ≤ 7 ∧
      ({ start with pad1 := { latch := 0x00, cursor := 7 } } : State).pad1.cursor ≤ 7 ∧
      7 < ({ start with pad1 := { latch := 0x00, cursor := 8 } } : State).pad1.cursor ∧
      7 < ({ start with pad2 := { latch := 0x00, cursor := 8 } } : State).pad2.cursor ∧
      ({ start with strobe := true } : State).strobe = true := by decide

/-- Both sources of an operand: an immediate, and a byte at an address whose page differs from the base's. -/
theorem operand_immediate (v : Byte) : OperandReads (.imm v) start v 0 start := ⟨rfl, rfl, rfl⟩

theorem operand_crossing : OperandReads (.mem (.abx 0x01FF)) (State.setX start 0x01) 0x00 1 (State.setX start 0x01) :=
  ⟨⟨_, rfl, rfl⟩, rfl⟩

/-- A port read through an operand changes the controller. -/
theorem operand_port :
    OperandReads (.mem (.abs 0x4016)) start 0x40 0 { start with pad1 := { latch := 0x00, cursor := 1 } } :=
  ⟨⟨_, rfl, rfl⟩, rfl⟩

theorem witness_LoadInstructions :
    OperandReads (Instr.ldaAbs 0x4016).row.operand start 0x40 0 { start with pad1 := { latch := 0x00, cursor := 1 } } ∧
      (Instr.ldaAbs 0x4016).row.mnemonic = .lda ∧ OperandReads (Instr.ldxImm 0x10).row.operand start 0x10 0 start ∧
      (Instr.ldxImm 0x10).row.mnemonic = .ldx ∧
      OperandReads (Instr.ldyAbx 0x01FF).row.operand (State.setX start 0x01) 0x00 1 (State.setX start 0x01) ∧
      (Instr.ldyAbx 0x01FF).row.mnemonic = .ldy :=
  ⟨operand_port, rfl, operand_immediate _, rfl, operand_crossing, rfl⟩

theorem witness_AddAndSubtractInstructions :
    OperandReads (Instr.adcImm 0xFF).row.operand start 0xFF 0 start ∧ (Instr.adcImm 0xFF).row.mnemonic = .adc ∧
      OperandReads (Instr.sbcAbx 0x01FF).row.operand (State.setX start 0x01) 0x00 1 (State.setX start 0x01) ∧
      (Instr.sbcAbx 0x01FF).row.mnemonic = .sbc := ⟨operand_immediate _, rfl, operand_crossing, rfl⟩

theorem witness_LogicInstructions :
    OperandReads (Instr.andImm 0xFF).row.operand start 0xFF 0 start ∧ (Instr.andImm 0xFF).row.mnemonic = .and ∧
      OperandReads (Instr.oraAbs 0x4016).row.operand start 0x40 0 { start with pad1 := { latch := 0x00, cursor := 1 } } ∧
      (Instr.oraAbs 0x4016).row.mnemonic = .ora ∧
      OperandReads (Instr.eorAbx 0x01FF).row.operand (State.setX start 0x01) 0x00 1 (State.setX start 0x01) ∧
      (Instr.eorAbx 0x01FF).row.mnemonic = .eor :=
  ⟨operand_immediate _, rfl, operand_port, rfl, operand_crossing, rfl⟩

theorem witness_CompareAndBitInstructions :
    OperandReads (Instr.cmpAbx 0x01FF).row.operand (State.setX start 0x01) 0x00 1 (State.setX start 0x01) ∧
      (Instr.cmpAbx 0x01FF).row.mnemonic = .cmp ∧ OperandReads (Instr.cpxImm 0x80).row.operand start 0x80 0 start ∧
      (Instr.cpxImm 0x80).row.mnemonic = .cpx ∧ (Instr.cpyImm 0x80).row.mnemonic = .cpy ∧
      OperandReads (Instr.bitAbs 0x4016).row.operand start 0x40 0 { start with pad1 := { latch := 0x00, cursor := 1 } } ∧
      (Instr.bitAbs 0x4016).row.mnemonic = .bit :=
  ⟨operand_crossing, rfl, operand_immediate _, rfl, rfl, operand_port, rfl⟩

theorem witness_StoreInstructions :
    (∃ ea s1, dataAddress (.izy 0xFF) start = some ea ∧ memWrite ea start.a start = .ok () s1) ∧
      (Instr.staIzy 0xFF).row.operand = .mem (.izy 0xFF) ∧ (Instr.staIzy 0xFF).row.mnemonic = .sta ∧
      (Instr.stxZpy 0xFF).row.mnemonic = .stx ∧ (Instr.styAbs 0x4016).row.mnemonic = .sty ∧
      (∃ s1, memWrite 0x4016 start.y start = .ok () s1) := ⟨⟨_, _, rfl, rfl⟩, rfl, rfl, rfl, rfl, ⟨_, rfl⟩⟩

/-- INC on a controller port: the read advances the cursor and the write is a strobe write. -/
theorem witness_IncrementAndDecrementMemory :
    (Instr.incAbs 0x4016).row.operand = .mem (.abs 0x4016) ∧ dataAddress (.abs 0x4016) start = some 0x4016 ∧
      (∃ s1 s2, memRead 0x4016 start = .ok 0x40 s1 ∧ memWrite 0x4016 0x41 s1 = .ok () s2) ∧
      (Instr.incAbs 0x4016).row.mnemonic = .inc ∧ (Instr.decZp 0x00).row.mnemonic = .dec :=
  ⟨rfl, rfl, ⟨_, _, rfl, rfl⟩, rfl, rfl⟩

theorem witness_ShiftInstructions :
    (Instr.rorZpx 0xFF).row.operand = .mem (.zpx 0xFF) ∧ dataAddress (.zpx 0xFF) start = some 0x00FF ∧
      (∃ s2, memRead 0x00FF start = .ok 0x00 start ∧
        memWrite 0x00FF (shiftResult .ror 0x00 false) { start with flags := afterShift .ror 0x00 start.flags } = .ok () s2) ∧
      (Instr.rorZpx 0xFF).row.mnemonic ∈ [Mnemonic.asl, .lsr, .rol, .ror] ∧ Instr.aslAcc.row.operand = .acc :=
  ⟨rfl, rfl, ⟨_, rfl, rfl⟩, by decide, rfl⟩

theorem witness_JumpInstructions :
    (∃ s1 s2, memRead 0x80FF start = .ok 0x00 s1 ∧ memRead ((0x80FF &&& 0xFF00) ||| ((0x80FF + 1) &&& 0x00FF)) s1 = .ok 0x00 s2) ∧
      ReadUnserved 0x4018 start ∧ (∃ s1, memRead 0x60FF { start with cart := halfCart 0x60FF } = .ok 0x00 s1) ∧
      ReadUnserved ((0x60FF &&& 0xFF00) ||| ((0x60FF + 1) &&& 0x00FF)) { start with cart := halfCart 0x60FF } :=
  ⟨⟨_, _, rfl, rfl⟩, .inl (by decide), ⟨_, rfl⟩, .inr (by decide)⟩

theorem witness_BreakAndReturnFromInterrupt :
    ∃ c d, start.cart.read 0xFFFE = some (0x00, c) ∧ c.read 0xFFFF = some (0x00, d) := ⟨_, _, rfl, rfl⟩

theorem witness_ReturnsUndoEntries :
    (∃ t, nmiSeq { start with nmiPending := true } = .next t) ∧ (∃ t, exec .brk start = .next t) ∧
      (∃ t, exec (.jsr 0x9000) start = .next t) := ⟨⟨_, rfl⟩, ⟨_, rfl⟩, ⟨_, rfl⟩⟩

theorem witness_BranchInstructions :
    (Instr.bpl (-128)).row.operand = .mem (.rel (-128)) ∧ branchTaken .bpl start.flags = some true ∧
      (Instr.bvs 127).row.operand = .mem (.rel 127) ∧ branchTaken .bvs start.flags = some false := by decide

theorem witness_StoreFrame :
    storesThroughOperand (.incZp 0xFF) = true ∧ (Instr.incZp 0xFF).row.operand = .mem (.zp 0xFF) ∧
      dataAddress (.zp 0xFF) start = some 0x00FF ∧ (∃ t, exec (.incZp 0xFF) start = .next t) ∧
      route 0x00FF = .ram 0xFF ∧ storesThroughOperand (.staAbs 0x8000) = true ∧ route 0x8000 = .cart ∧
      (∃ t, exec (.staAbs 0x8000) start = .next t) ∧ (∃ t, exec (.staAbs 0x2007) start = .next t) ∧
      (∃ t, exec (.incAbs 0x4017) start = .next t) ∧ start.cart.sameByte 0x8000 0xC001 = false :=
  ⟨rfl, rfl, rfl, ⟨_, rfl⟩, rfl, rfl, rfl, ⟨_, rfl⟩, ⟨_, rfl⟩, ⟨_, rfl⟩, rfl⟩

theorem witness_PushFrame :
    0 < pushedBytes (Instr.row .pha).mnemonic ∧ (∃ t, exec .pha (State.setSp start 0x00) = .next t) ∧
      0 < pushedBytes (Instr.row (.jsr 0)).mnemonic ∧ (∃ t, exec (.jsr 0) (State.setSp start 0x00) = .next t) ∧
      0 < pushedBytes (Instr.row .brk).mnemonic ∧ (∃ t, exec .brk (State.setSp start 0x01) = .next t) :=
  ⟨by decide, ⟨_, rfl⟩, by decide, ⟨_, rfl⟩, by decide, ⟨_, rfl⟩⟩

theorem witness_NoStoreFrame :
    storesThroughOperand (.ldaAbs 0x2007) = false ∧ pushedBytes (Instr.row (.ldaAbs 0x2007)).mnemonic = 0 ∧
      (∃ t, exec (.ldaAbs 0x2007) start = .next t) ∧ storesThroughOperand .aslAcc = false ∧
      pushedBytes (Instr.row .aslAcc).mnemonic = 0 ∧ readsThroughOperand .aslAcc = false ∧
      (∃ t, exec .aslAcc start = .next t) := ⟨rfl, rfl, ⟨_, rfl⟩, rfl, rfl, rfl, ⟨_, rfl⟩⟩

/-- Each clause: an instruction outside its list that answers a next state. -/
theorem witness_RegistersChangeOnlyByTheirInstructions :
    (∃ t, exec .nop start = .next t) ∧ (Instr.row .nop).mnemonic ∉ [Mnemonic.ldx, .tax, .tsx, .inx, .dex] ∧
      (Instr.row .nop).mnemonic ∉ [Mnemonic.ldy, .tay, .iny, .dey] ∧ (Instr.row .nop).operand ≠ .acc ∧
      (∃ t, exec (.rolZp 0x10) start = .next t) ∧ (Instr.row (.rolZp 0x10)).operand ≠ .acc :=
  ⟨⟨_, rfl⟩, by decide, by decide, by decide, ⟨_, rfl⟩, by decide⟩

theorem witness_FlagsChangeOnlyByTheirClass :
    (∃ t, exec (.adcImm 0x80) start = .next t) ∧ (Instr.row (.adcImm 0x80)).mnemonic ∉ [Mnemonic.plp, .rti] ∧
      (Instr.row (.adcImm 0x80)).mnemonic ∉ [Mnemonic.sed, .cld] ∧ (∃ t, exec .txs start = .next t) ∧
      (∃ t, exec .brk start = .next t) := ⟨⟨_, rfl⟩, by decide, by decide, ⟨_, rfl⟩, ⟨_, rfl⟩⟩

theorem witness_OnlyJamHaltsAndCyclesAreTwoToSeven :
    (∃ t, exec .jamF2 start = .next t) ∧ (Instr.row .jamF2).mnemonic = .jam ∧ (∃ t, exec .brk start = .next t) ∧
      (Instr.row .brk).mnemonic ≠ .jam := ⟨⟨_, rfl⟩, rfl, ⟨_, rfl⟩, by decide⟩

theorem witness_DecimalFlagHasNoEffectOnArithmetic :
    (Instr.row (.adcImm 0x01)).mnemonic = .adc ∧ (Instr.row (.sbcAbs 0x4016)).mnemonic = .sbc := by decide

theorem witness_StepKeepsCartridgeAndRecord :
    start.cart = Cart.reference [] 16384 ∧ ∃ t, step (State.setMem (State.setPc start 0x0000) [(0, 0xEA)]) = .next t :=
  ⟨rfl, ⟨_, rfl⟩⟩

theorem witness_StepKeepsTheInvariant : start.Inv ∧ ∃ t, step (code [0x8D, 0x00, 0x08] start) = .next t :=
  ⟨⟨by decide, by decide, by decide, by decide, by decide, by decide, by decide, by decide, by decide, by decide⟩, ⟨_, rfl⟩⟩

end Sys2Proof.Tests
end

section
/-! PROOFS. What an instruction that goes on has done: its bus accesses as frames, its effect on the CPU, its cycle
count. Every rule about all instructions is a case analysis of `exec_next`. -/

namespace Sys2Proof.Machine

open Sys2Proof.Claims

/-! ### What a bus access keeps -/

/-- What no bus access touches: the registers, the flags, the latches, the stop records, the host's inputs and the
cycle count (R35, R36). -/
structure CpuKept (s t : State) : Prop where
  a : t.a = s.a
  x : t.x = s.x
  y : t.y = s.y
  sp : t.sp = s.sp
  flags : t.flags = s.flags
  resetPending : t.resetPending = s.resetPending
  nmiPending : t.nmiPending = s.nmiPending
  halted : t.halted = s.halted
  fault : t.fault = s.fault
  host : t.host = s.host
  hostScript : t.hostScript = s.hostScript
  cycles : t.cycles = s.cycles

/-- Two accesses in a row touch nothing either leaves alone. -/
theorem CpuKept.trans {s t u : State} (h1 : CpuKept s t) (h2 : CpuKept t u) : CpuKept s u :=
  ⟨h2.a.trans h1.a, h2.x.trans h1.x, h2.y.trans h1.y, h2.sp.trans h1.sp, h2.flags.trans h1.flags,
    h2.resetPending.trans h1.resetPending, h2.nmiPending.trans h1.nmiPending, h2.halted.trans h1.halted,
    h2.fault.trans h1.fault, h2.host.trans h1.host, h2.hostScript.trans h1.hostScript, h2.cycles.trans h1.cycles⟩

theorem ReadFrame.cpuKept {s t : State} (h : ReadFrame s t) : CpuKept s t := by
  rw [h.eq]; exact ⟨rfl, rfl, rfl, rfl, rfl, rfl, rfl, rfl, rfl, rfl, rfl, rfl⟩

theorem WriteFrame.cpuKept {a : Word} {s t : State} (h : WriteFrame a s t) : CpuKept s t := by
  rw [h.eq]; exact ⟨rfl, rfl, rfl, rfl, rfl, rfl, rfl, rfl, rfl, rfl, rfl, rfl⟩

/-! ### What an instruction that goes on has done -/

/-- The mnemonics that set PC and nothing else of the CPU (R122, R123, R129). -/
def gotoMnemonics : List Mnemonic := [.bcc, .bcs, .beq, .bne, .bmi, .bpl, .bvc, .bvs, .jmp]

/-- What instruction `i` has done when it goes from `s` on to `t`: its bus accesses as frames, its effect on the CPU,
and its cycle count (R79). -/
inductive ExecNext (i : Instr) (s t : State) : Prop
  | read (f : Byte → State → State) (effect : ReadEffect i.row.mnemonic f) (v : Byte) (u : State) (bus : ReadFrame s u)
      (n c : Nat) (low : 2 ≤ c) (high : c ≤ 7) (out : t = ((f v u).advance n).setCycles c)
  | store (f : State → Byte) (effect : StoreSource i.row.mnemonic f) (ea : Word) (u : State) (bus : WriteFrame ea s u)
      (n c : Nat) (low : 2 ≤ c) (high : c ≤ 7) (out : t = (u.advance n).setCycles c)
  | shift (f : Byte → Flags → Byte × Flags) (effect : ShiftEffect i.row.mnemonic f) (v : Byte) (ea : Word) (u w : State)
      (load : ReadFrame s u) (bus : WriteFrame ea (u.setFlags (f v u.flags).2) w) (operand : i.row.operand ≠ .acc)
      (n c : Nat) (low : 2 ≤ c) (high : c ≤ 7) (out : t = (w.advance n).setCycles c)
  | count (f : Byte → Byte) (effect : CountEffect i.row.mnemonic f) (v : Byte) (ea : Word) (u w : State)
      (load : ReadFrame s u) (bus : WriteFrame ea u w) (n c : Nat) (low : 2 ≤ c) (high : c ≤ 7)
      (out : t = ((w.setFlags (w.flags.setZN (f v))).advance n).setCycles c)
  | shiftAcc (f : Byte → Flags → Byte × Flags) (effect : ShiftEffect i.row.mnemonic f) (operand : i.row.operand = .acc)
      (out : t = (((s.setFlags (f s.a s.flags).2).setA (f s.a s.flags).1).advance 1).setCycles 2)
  | implied (f : State → State) (effect : ImpliedEffect i.row.mnemonic f) (out : t = ((f s).advance 1).setCycles 2)
  | goto (effect : i.row.mnemonic ∈ gotoMnemonics) (u : State) (bus : ReadFrame s u) (target : Word) (c : Nat)
      (low : 2 ≤ c) (high : c ≤ 7) (out : t = (u.setPc target).setCycles c)
  | push (f : State → Byte) (effect : PushSource i.row.mnemonic f)
      (out : t = { s with mem := s.mem.write (0x100 + s.sp.toNat) (f s), sp := s.sp - 1, pc := s.pc + 1, cycles := 3 })
  | pull (f : Byte → State → State) (effect : PullEffect i.row.mnemonic f) (v : Byte)
      (pulled : v = s.mem.read (0x100 + (s.sp + 1).toNat)) (out : t = ((f v { s with sp := s.sp + 1 }).advance 1).setCycles 4)
  | jsr (mnemonic : i.row.mnemonic = .jsr) (h l : Byte) (target : Word)
      (out : t = { s with
        mem := (s.mem.write (0x100 + s.sp.toNat) h).write (0x100 + (s.sp - 1).toNat) l
        sp := s.sp - 2, pc := target, cycles := 6 })
  | rts (mnemonic : i.row.mnemonic = .rts) (target : Word)
      (out : t = { s with sp := s.sp + 2, pc := target, cycles := 6 })
  | brk (mnemonic : i.row.mnemonic = .brk) (ret : Word) (u : State) (bus : ReadFrame (entered ret true s) u)
      (target : Word) (out : t = (u.setPc target).setCycles 7)
  | rti (mnemonic : i.row.mnemonic = .rti) (g : Flags) (target : Word)
      (out : t = { s with flags := g, sp := s.sp + 3, pc := target, cycles := 6 })
  | jam (mnemonic : i.row.mnemonic = .jam) (out : t = { s with halted := true })

/-- A branch's mnemonic sets PC only. -/
theorem BranchCondition.goto {k : Mnemonic} {f : Flags → Bool} (h : BranchCondition k f) : k ∈ gotoMnemonics := by
  cases h <;> decide

theorem jmp_goto : Mnemonic.jmp ∈ gotoMnemonics := by decide

/-- A branch writes PC and takes 2 to 4 cycles (R129). -/
theorem branch_next {taken : Bool} {d : Int} {s t : State} (h : branch taken d s = .next t) :
    ∃ target c, 2 ≤ c ∧ c ≤ 4 ∧ t = (s.setPc target).setCycles c := by
  rw [branch_eq] at h
  split at h
  · cases h
    exact ⟨s.pc + 2 + BitVec.ofInt 16 d, _, by omega, by split <;> omega, rfl⟩
  · cases h; exact ⟨s.pc + 2, 2, by omega, by omega, rfl⟩

/-- JSR never stops (R124). -/
theorem execJsr_eq (w : Word) (s : State) :
    execJsr w s = .next { s with
      mem := (s.mem.write (0x100 + s.sp.toNat) (hi (s.pc + 2))).write (0x100 + (s.sp - 1).toNat) (lo (s.pc + 2))
      sp := s.sp - 2, pc := w, cycles := 6 } := by
  simp only [execJsr, resolve, Res.bind_ok, push16_eq, finish_ok]; rfl

/-- RTS never stops (R125). -/
theorem execRts_eq (s : State) :
    execRts s = .next { s with
      sp := s.sp + 2
      pc := join (s.mem.read (0x100 + (s.sp + 2).toNat)) (s.mem.read (0x100 + (s.sp + 1).toNat)) + 1
      cycles := 6 } := by
  simp only [execRts, pull16_eq, Res.bind_ok, finish_ok]; rfl

/-- RTI never stops (R128). -/
theorem execRti_eq (s : State) :
    execRti s = .next { s with
      flags := Flags.ofByte (s.mem.read (0x100 + (s.sp + 1).toNat))
      sp := s.sp + 3
      pc := join (s.mem.read (0x100 + (s.sp + 3).toNat)) (s.mem.read (0x100 + (s.sp + 2).toNat))
      cycles := 6 } := by
  simp only [execRti, returnFromInterrupt_eq, Res.bind_ok, finish_ok]; rfl

/-- Every instruction that goes on is one of the cases of `ExecNext`. -/
theorem exec_next {i : Instr} {s t : State} (h : exec i s = .next t) : ExecNext i s t := by
  cases exec_form i with
  | readImm v f effect operand count run =>
    rw [run] at h; cases h
    exact .read f effect v s (.refl s) 2 2 (by omega) (by omega) rfl
  | readMem m f effect operand data low high run =>
    rw [run] at h
    obtain ⟨r, v, u, -, hread, rfl⟩ := readMem_next data h
    have := r.extra_le
    exact .read f effect v u (memRead_frame hread) _ _ (by omega) (by omega) rfl
  | writeMem m f effect operand data low high run =>
    rw [run] at h
    obtain ⟨r, u, -, hwrite, rfl⟩ := writeMem_next data h
    exact .store f effect r.ea u (memWrite_frame hwrite) _ _ low high rfl
  | shiftMem m f effect operand data low high run =>
    rw [run] at h
    obtain ⟨r, v, u, w, -, hread, hwrite, rfl⟩ := shiftMem_next data h
    exact .shift f effect v r.ea u w (memRead_frame hread) (memWrite_frame hwrite) (by simp [operand]) _ _ low high rfl
  | countMem m f effect operand data low high run =>
    rw [run] at h
    obtain ⟨r, v, u, w, -, hread, hwrite, rfl⟩ := countMem_next data h
    exact .count f effect v r.ea u w (memRead_frame hread) (memWrite_frame hwrite) _ _ low high rfl
  | shiftAcc f effect operand run => rw [run] at h; cases h; exact .shiftAcc f effect operand rfl
  | implied f effect operand run => rw [run] at h; cases h; exact .implied f effect rfl
  | branch d f effect operand run =>
    rw [run] at h
    obtain ⟨target, c, low, high, rfl⟩ := branch_next h
    exact .goto effect.goto s (.refl s) target c low (by omega) rfl
  | push f effect operand run => rw [run, pushByte_eq] at h; cases h; exact .push f effect rfl
  | pull f effect operand run => rw [run, pullByte_eq] at h; cases h; exact .pull f effect _ rfl rfl
  | jmpAbs w is =>
    subst is
    obtain ⟨r, u, -, bus, rfl⟩ := jump_next (m := .abs w) (c := 3) h
    exact .goto jmp_goto u bus r.ea 3 (by omega) (by omega) rfl
  | jmpInd w is =>
    subst is
    obtain ⟨r, u, -, bus, rfl⟩ := jump_next (m := .ind w) (c := 5) h
    exact .goto jmp_goto u bus r.ea 5 (by omega) (by omega) rfl
  | jsr w is => subst is; cases (execJsr_eq w s).symm.trans h; exact .jsr rfl _ _ _ rfl
  | rts is => subst is; cases (execRts_eq s).symm.trans h; exact .rts rfl _ rfl
  | brk is =>
    subst is
    obtain ⟨out, bus⟩ := execBrk_next h
    exact .brk rfl _ _ bus t.pc out
  | rti is => subst is; cases (execRti_eq s).symm.trans h; exact .rti rfl _ _ rfl
  | jam mnemonic operand run => rw [run] at h; cases h; exact .jam mnemonic rfl

end Sys2Proof.Machine
end

section
/-! PROOFS. What every step keeps: a property kept by bus reads, bus writes, changes inside the CPU and video ticks is
kept by every step; the invariant, the fault record and the reference cartridge are three such properties. -/

namespace Sys2Proof.Machine

open Sys2Proof.Claims

/-! ### What every step keeps -/

/-- A change of what lies inside the CPU and of the host's inputs: no storage, no device, no cartridge, no fault
record; the cycle count stays in its range (R11). -/
structure CpuMove (s t : State) : Prop where
  eq : t = { s with
    a := t.a, x := t.x, y := t.y, sp := t.sp, pc := t.pc, flags := t.flags, resetPending := t.resetPending
    nmiPending := t.nmiPending, halted := t.halted, host := t.host, hostScript := t.hostScript, cycles := t.cycles }
  cycles : s.cycles ≤ 7 → t.cycles ≤ 7

/-- A property kept by each thing a step is made of: a bus read, a bus write, a change inside the CPU, and the video
ticks. Such a property is kept by every step: `step_keeps`. -/
structure KeptByParts (P : State → Prop) : Prop where
  read : ∀ {s t}, P s → ReadFrame s t → P t
  write : ∀ {a s t}, P s → WriteFrame a s t → P t
  cpu : ∀ {s t}, P s → CpuMove s t → P t
  ticks : ∀ {s}, P s → ∀ n, P (runVideo n s)

/-- A stack byte is written by one bus write (R45, R93). -/
theorem KeptByParts.stack {P : State → Prop} (hP : KeptByParts P) {s : State} (p v : Byte) (h : P s) :
    P (s.setMem (s.mem.write (0x100 + p.toNat) v)) :=
  hP.write h (memWrite_frame (memWrite_ram (route_stackAddr p) v s))

/-- The entry of an interrupt is three stack writes and a change inside the CPU (R127, R150). -/
theorem KeptByParts.entered {P : State → Prop} (hP : KeptByParts P) {s : State} (ret : Word) (b : Bool) (h : P s) :
    P (entered ret b s) := by
  have h1 := hP.stack s.sp (hi ret) h
  have h2 := hP.stack (s.sp - 1) (lo ret) h1
  have h3 := hP.stack (s.sp - 2) (s.flags.image b) h2
  exact hP.cpu h3 ⟨rfl, id⟩

/-- An instruction keeps what its parts keep: each case is the chain of its accesses and its changes inside the CPU. -/
theorem exec_keeps {P : State → Prop} (hP : KeptByParts P) {i : Instr} {s t : State} (h : P s)
    (hx : exec i s = .next t) : P t := by
  cases exec_next hx with
  | read f effect v u bus n c low high out =>
    have h1 := hP.read h bus
    refine hP.cpu h1 ⟨?_, fun _ => ?_⟩
    · rw [out, effect.frame]; rfl
    · rw [out]; exact high
  | store f effect ea u bus n c low high out =>
    subst out
    exact hP.cpu (hP.write h bus) ⟨rfl, fun _ => high⟩
  | shift f effect v ea u w load bus operand n c low high out =>
    subst out
    have h1 := hP.read h load
    have h2 : P (u.setFlags (f v u.flags).2) := hP.cpu h1 ⟨rfl, id⟩
    exact hP.cpu (hP.write h2 bus) ⟨rfl, fun _ => high⟩
  | count f effect v ea u w load bus n c low high out =>
    subst out
    exact hP.cpu (hP.write (hP.read h load) bus) ⟨rfl, fun _ => high⟩
  | shiftAcc f effect operand out => subst out; exact hP.cpu h ⟨rfl, fun _ => by simp⟩
  | implied f effect out =>
    refine hP.cpu h ⟨?_, fun _ => ?_⟩
    · rw [out, effect.frame]; rfl
    · rw [out]; simp
  | goto effect u bus target c low high out =>
    subst out
    exact hP.cpu (hP.read h bus) ⟨rfl, fun _ => high⟩
  | push f effect out => subst out; exact hP.cpu (hP.stack s.sp (f s) h) ⟨rfl, fun _ => by simp⟩
  | pull f effect v pulled out =>
    refine hP.cpu h ⟨?_, fun _ => ?_⟩
    · rw [out, effect.frame]; rfl
    · rw [out]; simp
  | jsr mnemonic hb lb target out =>
    subst out
    exact hP.cpu (hP.stack (s.sp - 1) lb (hP.stack s.sp hb h)) ⟨rfl, fun _ => by simp⟩
  | rts mnemonic target out => subst out; exact hP.cpu h ⟨rfl, fun _ => by simp⟩
  | brk mnemonic ret u bus target out =>
    subst out
    exact hP.cpu (hP.read (hP.entered ret true h) bus) ⟨rfl, fun _ => by simp⟩
  | rti mnemonic g target out => subst out; exact hP.cpu h ⟨rfl, fun _ => by simp⟩
  | jam mnemonic out => subst out; exact hP.cpu h ⟨rfl, id⟩

/-- The reset sequence, the NMI sequence and an instruction with its fetch keep what their parts keep (R148). -/
theorem cpuStep_keeps {P : State → Prop} (hP : KeptByParts P) {s t : State} (h : P s) (hx : cpuStep s = .next t) :
    P t := by
  unfold cpuStep at hx
  split at hx
  · obtain ⟨u, bus, out⟩ := resetSeq_next hx
    have h1 : P { s with resetPending := false, sp := s.sp - 3 } := hP.cpu h ⟨rfl, id⟩
    rw [out]
    exact hP.cpu (hP.read h1 bus) ⟨rfl, fun _ => by simp⟩
  · split at hx
    · obtain ⟨u, bus, out⟩ := nmiSeq_next hx
      have h1 : P { s with nmiPending := false } := hP.cpu h ⟨rfl, id⟩
      rw [out]
      exact hP.cpu (hP.read (hP.entered _ _ h1) bus) ⟨rfl, fun _ => by simp⟩
    · obtain ⟨bs, u, i, rest, hfetch, -, hexec⟩ := execStep_next hx
      exact exec_keeps hP (hP.read h (fetchInstruction_frame hfetch)) hexec

/-- A step that is taken starts from RUN, and is the CPU step after the host's inputs, then the video ticks unless it
halted (R147, R148, R178). -/
theorem step_next {s t : State} (h : step s = .next t) :
    s.running ∧ ∃ u, cpuStep (acceptHost s) = .next u ∧ t = if u.halted then u else runVideo (3 * u.cycles) u := by
  unfold step orchestrate at h
  split at h
  · cases h
  · next hfault =>
    split at h
    · cases h
    · next hhalt => exact ⟨⟨by simpa using hhalt, hfault⟩, afterCpuStep_next h⟩

/-- What each part of a step keeps, every step keeps (R178). -/
theorem step_keeps {P : State → Prop} (hP : KeptByParts P) {s t : State} (h : P s) (hx : step s = .next t) : P t := by
  obtain ⟨-, u, hcpu, rfl⟩ := step_next hx
  have h1 : P (acceptHost s) := hP.cpu h ⟨by rw [acceptHost_frame], by simp⟩
  have h2 : P u := cpuStep_keeps hP h1 hcpu
  split
  · exact h2
  · exact hP.ticks h2 _

/-! ### The invariant -/

/-- The key a served write lists is RAM's or the I/O storage's own (R22, R23). -/
theorem storageKey_of_route {a : Word} {k : Nat} (h : route a = .ram k ∨ route a = .io k) : storageKey k :=
  h.imp range_of_route_ram range_of_route_io

theorem ReadFrame.mem {s t : State} (h : ReadFrame s t) : t.mem = s.mem := by rw [h.eq]

theorem State.Inv.of_read {s t : State} (h : s.Inv) (f : ReadFrame s t) : t.Inv where
  memory_canonical := f.mem ▸ h.memory_canonical
  memory_keys := f.mem ▸ h.memory_keys
  cart_canonical := f.cartWf h.cart_canonical
  oam_canonical := f.oam ▸ h.oam_canonical
  oam_keys := f.oam ▸ h.oam_keys
  scanline_range := f.scanline ▸ h.scanline_range
  dot_range := f.dot ▸ h.dot_range
  cursor1_range := f.cursor1 h.cursor1_range
  cursor2_range := f.cursor2 h.cursor2_range
  cycles_range := f.cpuKept.cycles ▸ h.cycles_range

/-- The storage after a served write is canonical and holds its own keys only (R22, R23). -/
theorem State.Inv.memory_of_write {a : Word} {s t : State} (h : s.Inv) (f : WriteFrame a s t) :
    t.mem.wf ∧ ∀ c ∈ t.mem, storageKey c.1 := by
  rcases f.mem with ⟨v, k, hm, hk⟩ | ⟨hm, -⟩
  · rw [hm]
    refine ⟨Memory.wf_write h.memory_canonical k v, fun c hc => ?_⟩
    rcases Memory.keys_write hc with rfl | hc
    · exact storageKey_of_route hk
    · exact h.memory_keys c hc
  · rw [hm]; exact ⟨h.memory_canonical, h.memory_keys⟩

/-- OAM after a served write is canonical and holds its own 256 keys only (R24). -/
theorem State.Inv.oam_of_write {a : Word} {s t : State} (h : s.Inv) (f : WriteFrame a s t) :
    t.video.oam.wf ∧ ∀ c ∈ t.video.oam, c.1 < 256 := by
  rcases f.oam with hm | ⟨v, hm⟩
  · rw [hm]; exact ⟨h.oam_canonical, h.oam_keys⟩
  · rw [hm]
    refine ⟨Memory.wf_write h.oam_canonical _ v, fun c hc => ?_⟩
    rcases Memory.keys_write hc with hk | hc
    · rw [hk]; exact s.video.oamaddr.isLt
    · exact h.oam_keys c hc

theorem State.Inv.of_write {a : Word} {s t : State} (h : s.Inv) (f : WriteFrame a s t) : t.Inv where
  memory_canonical := (h.memory_of_write f).1
  memory_keys := (h.memory_of_write f).2
  cart_canonical := f.cartWf h.cart_canonical
  oam_canonical := (h.oam_of_write f).1
  oam_keys := (h.oam_of_write f).2
  scanline_range := f.scanline ▸ h.scanline_range
  dot_range := f.dot ▸ h.dot_range
  cursor1_range := f.cursor1 h.cursor1_range
  cursor2_range := f.cursor2 h.cursor2_range
  cycles_range := f.cpuKept.cycles ▸ h.cycles_range

theorem State.Inv.of_cpu {s t : State} (h : s.Inv) (m : CpuMove s t) : t.Inv := by
  have hc : t.cycles ≤ 7 := m.cycles h.cycles_range
  rw [m.eq]
  exact { h with cycles_range := hc }

theorem State.Inv.of_ticks {s : State} (h : s.Inv) (n : Nat) : (runVideo n s).Inv := by
  have hoam : (s.video.ticks n).1.oam = s.video.oam := by rw [Video.ticks_frame]
  obtain ⟨hline, hdot⟩ := Video.ticks_range n h.scanline_range h.dot_range
  exact { h with
    oam_canonical := hoam ▸ h.oam_canonical
    oam_keys := hoam ▸ h.oam_keys
    scanline_range := hline
    dot_range := hdot }

/-- Settles O59: bus reads, bus writes, changes inside the CPU and video ticks each keep the invariant, and a step is
made of those. -/
theorem stepKeepsTheInvariant : Obligations.StepKeepsTheInvariant := fun _ _ h hstep =>
  step_keeps (P := State.Inv) ⟨.of_read, .of_write, .of_cpu, .of_ticks⟩ h hstep

/-! ### The fault record and the reference cartridge -/

/-- No part of a step that goes on records a fault (R21). -/
theorem faultNone_kept : KeptByParts fun s => s.fault = none where
  read h f := f.cpuKept.fault.trans h
  write h f := f.cpuKept.fault.trans h
  cpu h m := by rw [m.eq]; exact h
  ticks h _ := h

/-- The reference cartridge reads without effect and stores nothing, so no part of a step changes it (R43, R49). -/
theorem reference_kept (prg : Memory) (size : Nat) : KeptByParts fun s => s.cart = Cart.reference prg size where
  read h f := (f.windows _ h).trans h
  write h f := by
    obtain ⟨ws, hws, hrom⟩ := Cart.reference_rom prg size
    exact (f.cartRom ws (h.trans hws) hrom).trans h
  cpu h m := by rw [m.eq]; exact h
  ticks h _ := h

/-- Settles O57: a step is taken from RUN only, and no part of it records a fault or changes the reference
cartridge. -/
theorem stepKeepsCartridgeAndRecord : Obligations.StepKeepsCartridgeAndRecord := by
  intro s t prg size h
  obtain ⟨⟨-, hfault⟩, -⟩ := step_next h
  refine ⟨step_keeps faultNone_kept hfault h, fun hcart => ?_⟩
  exact (step_keeps (reference_kept prg size) hcart h).trans hcart.symm

end Sys2Proof.Machine
end

section
/-! PROOFS. Which instructions write which register and which flag, which halt, and how many cycles they count. -/

namespace Sys2Proof.Machine

open Sys2Proof.Claims

/-! ### Which instructions write which register, and which flag -/

/-- The mnemonics that write S (R13, R14). -/
def spMnemonics : List Mnemonic := [.pha, .php, .pla, .plp, .jsr, .rts, .brk, .rti, .txs]

/-- What a mnemonic with an operand may do to A, X, Y and S (R13, R14). -/
def RegistersByTable (k : Mnemonic) (o : Operand) (s t : State) : Prop :=
  (k ∉ [Mnemonic.ldx, .tax, .tsx, .inx, .dex] → t.x = s.x) ∧
  (k ∉ [Mnemonic.ldy, .tay, .iny, .dey] → t.y = s.y) ∧
  (k ∉ spMnemonics → t.sp = s.sp) ∧
  (k ∉ [Mnemonic.lda, .txa, .tya, .pla, .adc, .sbc, .and, .ora, .eor] → o ≠ .acc → t.a = s.a)

/-- What a mnemonic may do to the flags, by class (R18). -/
def FlagsByClass (k : Mnemonic) (f g : Flags) : Prop :=
  k ∉ [Mnemonic.plp, .rti] →
    (k ∉ [Mnemonic.sed, .cld] → g.d = f.d) ∧
    (k ∉ [Mnemonic.sei, .cli, .brk] → g.i = f.i) ∧
    (k ∉ [Mnemonic.adc, .sbc, .bit, .clv] → g.v = f.v) ∧
    (k ∉ [Mnemonic.adc, .sbc, .cmp, .cpx, .cpy, .asl, .lsr, .rol, .ror, .sec, .clc] → g.c = f.c) ∧
    (k ∈ [Mnemonic.sta, .stx, .sty, .txs, .pha, .php, .bcc, .bcs, .beq, .bne, .bmi, .bpl, .bvc, .bvs, .jmp, .jsr,
        .rts, .nop, .jam] → g = f) ∧
    (k ∈ [Mnemonic.clc, .sec, .cli, .sei, .cld, .sed, .clv, .brk] → g.z = f.z ∧ g.n = f.n)

theorem RegistersByTable.of_eq {k : Mnemonic} {o : Operand} {s t : State} (hx : t.x = s.x) (hy : t.y = s.y)
    (hsp : t.sp = s.sp) (ha : t.a = s.a) : RegistersByTable k o s t :=
  ⟨fun _ => hx, fun _ => hy, fun _ => hsp, fun _ _ => ha⟩

theorem RegistersByTable.of_kept {k : Mnemonic} {o : Operand} {s u t : State} (h : RegistersByTable k o u t)
    (kept : CpuKept s u) : RegistersByTable k o s t := by
  rwa [RegistersByTable, kept.a, kept.x, kept.y, kept.sp] at h

/-- An instruction with a stack access writes S, and no other register unless it pulls A. -/
theorem RegistersByTable.of_stack {k : Mnemonic} {o : Operand} {s t : State}
    (hk : k ∈ spMnemonics) (hx : t.x = s.x) (hy : t.y = s.y)
    (ha : k ≠ .pla → t.a = s.a) : RegistersByTable k o s t :=
  ⟨fun _ => hx, fun _ => hy, fun hn => absurd hk hn, fun hn _ => ha (by rintro rfl; exact hn (by decide))⟩

theorem FlagsByClass.refl (k : Mnemonic) (f : Flags) : FlagsByClass k f f :=
  fun _ => ⟨fun _ => rfl, fun _ => rfl, fun _ => rfl, fun _ => rfl, fun _ => rfl, fun _ => ⟨rfl, rfl⟩⟩

theorem ReadEffect.registers {k : Mnemonic} {f : Byte → State → State} (h : ReadEffect k f) (o : Operand) (v : Byte)
    (s : State) : RegistersByTable k o s (f v s) := by
  cases h <;> simp [RegistersByTable, spMnemonics, loadA, loadX, loadY, addA, subA, andA, orA, eorA, testA, compareA,
    compareX, compareY]

theorem ReadEffect.flags {k : Mnemonic} {f : Byte → State → State} (h : ReadEffect k f) (v : Byte) (s : State) :
    FlagsByClass k s.flags (f v s).flags := by
  cases h <;> simp [FlagsByClass, loadA, loadX, loadY, addA, subA, andA, orA, eorA, testA, compareA, compareX, compareY,
    addCore, Flags.setZN, bitFlags, compareFlags]

theorem ImpliedEffect.registers {k : Mnemonic} {f : State → State} (h : ImpliedEffect k f) (o : Operand) (s : State) :
    RegistersByTable k o s (f s) := by
  cases h <;> simp [RegistersByTable, spMnemonics, loadA, loadX, loadY]

theorem ImpliedEffect.flags {k : Mnemonic} {f : State → State} (h : ImpliedEffect k f) (s : State) :
    FlagsByClass k s.flags (f s).flags := by
  cases h <;> simp [FlagsByClass, loadA, loadX, loadY, Flags.setZN]

theorem ShiftEffect.flags {k : Mnemonic} {f : Byte → Flags → Byte × Flags} (h : ShiftEffect k f) (m : Byte)
    (g : Flags) : FlagsByClass k g (f m g).2 := by
  cases h <;> simp [FlagsByClass, aslCore, lsrCore, rolCore, rorCore, shiftFlags, Flags.setZN]

theorem CountEffect.flags {k : Mnemonic} {f : Byte → Byte} (h : CountEffect k f) (v : Byte)
    (g : Flags) : FlagsByClass k g (g.setZN v) := by
  cases h <;> simp [FlagsByClass, Flags.setZN]

theorem PullEffect.flags {k : Mnemonic} {f : Byte → State → State} (h : PullEffect k f) (v : Byte) (s : State) :
    FlagsByClass k s.flags (f v s).flags := by
  cases h <;> simp [FlagsByClass, loadA, Flags.setZN]

theorem PushSource.stack {k : Mnemonic} {f : State → Byte} (h : PushSource k f) :
    k ∈ spMnemonics := by cases h <;> decide

theorem PullEffect.registers {k : Mnemonic} {f : Byte → State → State} (h : PullEffect k f) (o : Operand) (v : Byte)
    (s : State) (sp : Byte) : RegistersByTable k o s (f v (s.setSp sp)) := by
  cases h with
  | pla => exact .of_stack (by decide) rfl rfl (absurd rfl)
  | plp => exact .of_stack (by decide) rfl rfl fun _ => rfl

/-- The registers an instruction that goes on has written (R13, R14). -/
theorem ExecNext.registers {i : Instr} {s t : State} (h : ExecNext i s t) :
    RegistersByTable i.row.mnemonic i.row.operand s t := by
  cases h with
  | read f effect v u bus n c low high out =>
    subst out
    exact (effect.registers _ v u).of_kept bus.cpuKept
  | store f effect ea u bus n c low high out =>
    have kept := bus.cpuKept
    subst out
    exact .of_eq kept.x kept.y kept.sp kept.a
  | shift f effect v ea u w load bus operand n c low high out =>
    have l := load.cpuKept
    have w := bus.cpuKept
    subst out
    exact .of_eq (w.x.trans l.x) (w.y.trans l.y) (w.sp.trans l.sp) (w.a.trans l.a)
  | count f effect v ea u w load bus n c low high out =>
    have kept := load.cpuKept.trans bus.cpuKept
    subst out
    exact .of_eq kept.x kept.y kept.sp kept.a
  | shiftAcc f effect operand out =>
    subst out
    exact ⟨fun _ => rfl, fun _ => rfl, fun _ => rfl, fun _ hacc => absurd operand hacc⟩
  | implied f effect out => subst out; exact effect.registers _ s
  | goto effect u bus target c low high out =>
    have kept := bus.cpuKept
    subst out
    exact .of_eq kept.x kept.y kept.sp kept.a
  | push f effect out => subst out; exact .of_stack effect.stack rfl rfl fun _ => rfl
  | pull f effect v pulled out => subst out; exact effect.registers _ v s (s.sp + 1)
  | jsr mnemonic hb lb target out => subst out; exact .of_stack (mnemonic ▸ by decide) rfl rfl fun _ => rfl
  | rts mnemonic target out => subst out; exact .of_stack (mnemonic ▸ by decide) rfl rfl fun _ => rfl
  | brk mnemonic ret u bus target out =>
    have kept := bus.cpuKept
    subst out
    exact .of_stack (mnemonic ▸ by decide) kept.x kept.y fun _ => kept.a
  | rti mnemonic g target out => subst out; exact .of_stack (mnemonic ▸ by decide) rfl rfl fun _ => rfl
  | jam mnemonic out => subst out; exact .of_eq rfl rfl rfl rfl

/-- The flags an instruction that goes on has written (R18). -/
theorem ExecNext.flags {i : Instr} {s t : State} (h : ExecNext i s t) :
    FlagsByClass i.row.mnemonic s.flags t.flags := by
  cases h with
  | read f effect v u bus n c low high out =>
    subst out
    rw [← bus.cpuKept.flags]
    exact effect.flags v u
  | store f effect ea u bus n c low high out =>
    subst out
    rw [← bus.cpuKept.flags]
    exact .refl _ _
  | shift f effect v ea u w load bus operand n c low high out =>
    subst out
    rw [← load.cpuKept.flags]
    show FlagsByClass _ u.flags w.flags
    rw [bus.cpuKept.flags]
    exact effect.flags v u.flags
  | count f effect v ea u w load bus n c low high out =>
    subst out
    rw [← (load.cpuKept.trans bus.cpuKept).flags]
    exact effect.flags (f v) w.flags
  | shiftAcc f effect operand out => subst out; exact effect.flags s.a s.flags
  | implied f effect out => subst out; exact effect.flags s
  | goto effect u bus target c low high out =>
    subst out
    rw [← bus.cpuKept.flags]
    exact .refl _ _
  | push f effect out => subst out; exact .refl _ _
  | pull f effect v pulled out => subst out; exact effect.flags v { s with sp := s.sp + 1 }
  | jsr mnemonic hb lb target out => subst out; exact .refl _ _
  | rts mnemonic target out => subst out; exact .refl _ _
  | brk mnemonic ret u bus target out =>
    subst out
    show FlagsByClass _ s.flags u.flags
    rw [bus.cpuKept.flags, mnemonic]
    simp [FlagsByClass, entered]
  | rti mnemonic g target out => exact fun hk => absurd (by simp [mnemonic]) hk
  | jam mnemonic out => subst out; exact .refl _ _

/-- Settles O53, by the cases of what an instruction that goes on has done. -/
theorem registersChangeOnlyByTheirInstructions : Obligations.RegistersChangeOnlyByTheirInstructions :=
  fun _ _ _ h => (exec_next h).registers

/-- Settles O54, by the cases of what an instruction that goes on has done. -/
theorem flagsChangeOnlyByTheirClass : Obligations.FlagsChangeOnlyByTheirClass :=
  fun _ _ _ h => (exec_next h).flags

/-! ### Halting and the cycle count -/

/-- An instruction other than a jam opcode keeps `halted` and counts 2 to 7 cycles (R11, R20). -/
def RunsOn (s t : State) : Prop := t.halted = s.halted ∧ 2 ≤ t.cycles ∧ t.cycles ≤ 7

theorem RunsOn.of_count {s t : State} (c : Nat) (hh : t.halted = s.halted) (hc : t.cycles = c) (hb : 2 ≤ c ∧ c ≤ 7) :
    RunsOn s t := ⟨hh, hc ▸ hb.1, hc ▸ hb.2⟩

theorem not_jam_goto : Mnemonic.jam ∉ gotoMnemonics := by decide

/-- An instruction that goes on is a jam opcode that halts, or runs on. -/
theorem ExecNext.halts_or_runs {i : Instr} {s t : State} (h : ExecNext i s t) :
    i.row.mnemonic = .jam ∧ t = { s with halted := true } ∨ i.row.mnemonic ≠ .jam ∧ RunsOn s t := by
  cases h with
  | read f effect v u bus n c low high out =>
    have hf : (f v u).halted = u.halted := by rw [effect.frame]
    subst out
    exact .inr ⟨fun e => (nomatch e ▸ effect), hf.trans bus.cpuKept.halted, low, high⟩
  | store f effect ea u bus n c low high out =>
    subst out
    exact .inr ⟨fun e => (nomatch e ▸ effect), bus.cpuKept.halted, low, high⟩
  | shift f effect v ea u w load bus operand n c low high out =>
    subst out
    exact .inr ⟨fun e => (nomatch e ▸ effect), bus.cpuKept.halted.trans load.cpuKept.halted, low, high⟩
  | count f effect v ea u w load bus n c low high out =>
    subst out
    exact .inr ⟨fun e => (nomatch e ▸ effect), (load.cpuKept.trans bus.cpuKept).halted, low, high⟩
  | shiftAcc f effect operand out =>
    subst out
    exact .inr ⟨fun e => (nomatch e ▸ effect), .of_count 2 rfl rfl (by decide)⟩
  | implied f effect out =>
    have hf : (f s).halted = s.halted := by rw [effect.frame]
    subst out
    exact .inr ⟨fun e => (nomatch e ▸ effect), .of_count 2 hf rfl (by decide)⟩
  | goto effect u bus target c low high out =>
    subst out
    exact .inr ⟨fun e => not_jam_goto (e ▸ effect), bus.cpuKept.halted, low, high⟩
  | push f effect out =>
    subst out
    exact .inr ⟨fun e => (nomatch e ▸ effect), .of_count 3 rfl rfl (by decide)⟩
  | pull f effect v pulled out =>
    have hf : (f v { s with sp := s.sp + 1 }).halted = s.halted := by rw [effect.frame]
    subst out
    exact .inr ⟨fun e => (nomatch e ▸ effect), .of_count 4 hf rfl (by decide)⟩
  | jsr mnemonic hb lb target out => subst out; exact .inr ⟨by simp [mnemonic], .of_count 6 rfl rfl (by decide)⟩
  | rts mnemonic target out => subst out; exact .inr ⟨by simp [mnemonic], .of_count 6 rfl rfl (by decide)⟩
  | brk mnemonic ret u bus target out =>
    subst out
    exact .inr ⟨by simp [mnemonic], .of_count 7 bus.cpuKept.halted rfl (by decide)⟩
  | rti mnemonic g target out => subst out; exact .inr ⟨by simp [mnemonic], .of_count 6 rfl rfl (by decide)⟩
  | jam mnemonic out => exact .inl ⟨mnemonic, out⟩

/-- Settles O55: a jam opcode sets `halted` alone, and every other instruction runs on. -/
theorem onlyJamHaltsAndCyclesAreTwoToSeven : Obligations.OnlyJamHaltsAndCyclesAreTwoToSeven := by
  intro i s t h
  rcases (exec_next h).halts_or_runs with ⟨hjam, rfl⟩ | ⟨hjam, hrun⟩
  · exact ⟨fun _ => ⟨rfl, rfl⟩, fun hn => absurd hjam hn⟩
  · exact ⟨fun hj => absurd hj hjam, fun _ => hrun⟩

end Sys2Proof.Machine
end

section
/-! PROOFS. What an instruction that stores through its operand leaves unchanged. -/

namespace Sys2Proof.Machine

open Sys2Proof.Claims

/-! ### The frame of a store -/

/-- A data mode resolves to the address the spec's formula gives (R68 to R75). -/
theorem resolve_dataAddress {m : Address} {ea : Word} {s : State} {r : Resolved} (h : dataAddress m s = some ea)
    (hr : resolve m s = .ok r s) : r.ea = ea := by
  cases m with
  | zp b => cases h; cases hr; exact join_zero b
  | zpx b => cases h; cases hr; exact join_zero _
  | zpy b => cases h; cases hr; exact join_zero _
  | abs w => cases h; cases hr; rfl
  | abx w => cases h; cases hr; rfl
  | aby w => cases h; cases hr; rfl
  | izx b => cases h; rw [resolve_izx] at hr; cases hr; rfl
  | izy b => cases h; rw [resolve_izy] at hr; cases hr; rfl
  | ind w => cases h
  | rel d => cases h

/-- The mnemonics of the write class (R84 to R86). -/
def writeMnemonics : List Mnemonic := [.sta, .stx, .sty]

/-- The operand read before a store at `ea`: none for the write class, one for a read-modify-write (R78, R79). -/
inductive LoadedAt (ea : Word) (s : State) : State → Prop
  | none : LoadedAt ea s s
  | read (v : Byte) (u : State) (h : memRead ea s = .ok v u) : LoadedAt ea s u

theorem LoadedAt.frame {ea : Word} {s u : State} (h : LoadedAt ea s u) : ReadFrame s u := by
  cases h with
  | none => exact .refl s
  | read v u h => exact memRead_frame h

/-- The operand read leaves every device but the one at its address (R49). -/
theorem LoadedAt.region {ea : Word} {s u : State} (h : LoadedAt ea s u) :
    ((∀ r, route ea ≠ .vreg r) → u.video = s.video ∧ u.draws = s.draws) ∧
    (route ea ≠ .pad .one → u.pad1 = s.pad1) ∧ (route ea ≠ .pad .two → u.pad2 = s.pad2) ∧
    (route ea ≠ .cart → u.cart = s.cart) := by
  cases h with
  | none => exact ⟨fun _ => ⟨rfl, rfl⟩, fun _ => rfl, fun _ => rfl, fun _ => rfl⟩
  | read v u h => exact memRead_region h

/-- Two addresses of different bytes of the cartridge are still of different bytes after a read: if they can be told
apart the cartridge is one of windows, which a read leaves (R42, R49). -/
theorem ReadFrame.sameByte {s u : State} (h : ReadFrame s u) {a b : Word} (hb : s.cart.sameByte a b = false) :
    u.cart.sameByte a b = false := by
  cases hc : s.cart with
  | windows ws => rw [h.windows ws hc]; exact hb
  | free k => rw [hc] at hb; cases hb

/-- What a store at `ea` by mnemonic `k` keeps: all that `StoreFrame` says but of the flags. -/
def KeptByStore (k : Mnemonic) (ea : Word) (s t : State) : Prop :=
  (∀ b : Word, route b ≠ route ea ∨ route ea = .cart ∧ s.cart.sameByte ea b = false → t.peek b = s.peek b) ∧
  t.a = s.a ∧ t.x = s.x ∧ t.y = s.y ∧ t.sp = s.sp ∧ OutsideKept s t ∧ t.halted = s.halted ∧
  ((∀ r, route ea ≠ .vreg r) → t.video = s.video ∧ t.draws = s.draws ∧ t.vramLog = s.vramLog) ∧
  (route ea ≠ .pad .one → t.pad1 = s.pad1 ∧ t.strobe = s.strobe) ∧
  (route ea ≠ .pad .one → route ea ≠ .pad .two ∨ k ∈ writeMnemonics → t.pad2 = s.pad2) ∧
  (route ea ≠ .pad .two → t.io4017w = s.io4017w) ∧
  (route ea ≠ .cart → t.cart = s.cart)

theorem ReadFrame.outputs {s t : State} (h : ReadFrame s t) :
    t.strobe = s.strobe ∧ t.io4017w = s.io4017w ∧ t.vramLog = s.vramLog := by rw [h.eq]; exact ⟨rfl, rfl, rfl⟩

theorem WriteFrame.draws {a : Word} {s t : State} (h : WriteFrame a s t) : t.draws = s.draws := by rw [h.eq]

/-- A write at `ea`, after the operand read and with any flags, keeps what a store there keeps (R36, R39, R79). -/
theorem memWrite_keptByStore {k : Mnemonic} {ea : Word} {v : Byte} {g : Flags} {s u w : State} (load : LoadedAt ea s u)
    (hk : k ∈ writeMnemonics → u = s) (hw : memWrite ea v (u.setFlags g) = .ok () w) : KeptByStore k ea s w := by
  have lf := load.frame
  have wf := memWrite_frame hw
  have lk := lf.cpuKept
  have wk := wf.cpuKept
  obtain ⟨lvideo, lpad1, lpad2, lcart⟩ := load.region
  obtain ⟨lstrobe, lio, llog⟩ := lf.outputs
  obtain ⟨wvideo, wpads, wio⟩ := memWrite_region hw
  have peek : ∀ b : Word, route b ≠ route ea ∨ route ea = .cart ∧ s.cart.sameByte ea b = false → w.peek b = s.peek b :=
    fun b hb => (memWrite_peek_other hw (hb.imp_right fun ⟨hc, hs⟩ => ⟨hc, lf.sameByte hs⟩)).trans (lf.peek b)
  have outside : OutsideKept s w :=
    ⟨wk.resetPending.trans lk.resetPending, wk.nmiPending.trans lk.nmiPending, wk.fault.trans lk.fault,
      wk.host.trans lk.host, wk.hostScript.trans lk.hostScript⟩
  have pad2 : route ea ≠ .pad .one → route ea ≠ .pad .two ∨ k ∈ writeMnemonics → w.pad2 = s.pad2 := fun h1 h2 =>
    (wpads h1).2.1.trans (h2.elim lpad2 fun hm => by rw [hk hm]; rfl)
  exact ⟨peek, wk.a.trans lk.a, wk.x.trans lk.x, wk.y.trans lk.y, wk.sp.trans lk.sp, outside, wk.halted.trans lk.halted,
    fun h => ⟨(wvideo h).1.trans (lvideo h).1, wf.draws.trans (lvideo h).2, (wvideo h).2.trans llog⟩,
    fun h => ⟨(wpads h).1.trans (lpad1 h), (wpads h).2.2.trans lstrobe⟩, pad2, fun h => (wio h).trans lio,
    fun h => (wf.cart h).trans (lcart h)⟩

/-- Only Z, N and C of the flags differ. -/
def OnlyZNC (f g : Flags) : Prop := g = { f with z := g.z, n := g.n, c := g.c }

/-- A shift or rotate writes Z, N and C (R117). -/
theorem ShiftEffect.onlyZNC {k : Mnemonic} {f : Byte → Flags → Byte × Flags} (h : ShiftEffect k f) (m : Byte)
    (g : Flags) : OnlyZNC g (f m g).2 := by
  cases h <;> rfl

theorem ShiftEffect.not_write {k : Mnemonic} {f : Byte → Flags → Byte × Flags} (h : ShiftEffect k f) :
    k ∉ writeMnemonics := by cases h <;> decide

theorem CountEffect.not_write {k : Mnemonic} {f : Byte → Byte} (h : CountEffect k f) : k ∉ writeMnemonics := by
  cases h <;> decide

/-- The read class stores nothing (R79). -/
theorem ReadEffect.not_store {i : Instr} {f : Byte → State → State} (h : ReadEffect i.row.mnemonic f) :
    storesThroughOperand i = false := by
  unfold storesThroughOperand
  generalize i.row.mnemonic = k at h
  cases h <;> rfl

/-- What an instruction that stores through its operand keeps, and what it does to the flags. -/
theorem exec_store {i : Instr} {s t : State} {md : Address} {ea : Word} (hst : storesThroughOperand i = true)
    (hop : i.row.operand = .mem md) (hea : dataAddress md s = some ea) (hx : exec i s = .next t) :
    KeptByStore i.row.mnemonic ea s t ∧ (t.flags = s.flags ∨ i.row.mnemonic ∉ writeMnemonics) ∧
      OnlyZNC s.flags t.flags := by
  cases exec_form i with
  | writeMem m f effect operand data low high run =>
    rw [run] at hx
    cases operand.symm.trans hop
    obtain ⟨r, u, hr, hw, rfl⟩ := writeMem_next data hx
    rw [resolve_dataAddress hea hr] at hw
    have hflags : u.flags = s.flags := (memWrite_frame hw).cpuKept.flags
    have kept : KeptByStore i.row.mnemonic ea s u := memWrite_keptByStore (g := s.flags) .none (fun _ => rfl) hw
    exact ⟨kept, .inl hflags, by show OnlyZNC s.flags u.flags; rw [hflags]; rfl⟩
  | shiftMem m f effect operand data low high run =>
    rw [run] at hx
    cases operand.symm.trans hop
    obtain ⟨r, v, u, w, hr, hread, hw, rfl⟩ := shiftMem_next data hx
    rw [resolve_dataAddress hea hr] at hread hw
    have hu : u.flags = s.flags := (memRead_frame hread).cpuKept.flags
    have hflags : w.flags = (f v s.flags).2 := hu ▸ (memWrite_frame hw).cpuKept.flags
    have kept : KeptByStore i.row.mnemonic ea s w :=
      memWrite_keptByStore (.read v u hread) (fun hm => absurd hm effect.not_write) hw
    exact ⟨kept, .inr effect.not_write, by show OnlyZNC s.flags w.flags; rw [hflags]; exact effect.onlyZNC v s.flags⟩
  | countMem m f effect operand data low high run =>
    rw [run] at hx
    cases operand.symm.trans hop
    obtain ⟨r, v, u, w, hr, hread, hw, rfl⟩ := countMem_next data hx
    rw [resolve_dataAddress hea hr] at hread hw
    have hflags : w.flags = s.flags :=
      ((memRead_frame hread).cpuKept.trans (memWrite_frame hw).cpuKept).flags
    have kept : KeptByStore i.row.mnemonic ea s w :=
      memWrite_keptByStore (g := u.flags) (.read v u hread) (fun hm => absurd hm effect.not_write) hw
    refine ⟨kept, .inr effect.not_write, ?_⟩
    show OnlyZNC s.flags (w.flags.setZN (f v))
    rw [hflags]; rfl
  | readMem m f effect operand data low high run => exact absurd hst (by simp [effect.not_store])
  | readImm v f effect operand count run => cases operand.symm.trans hop
  | shiftAcc f effect operand run => cases operand.symm.trans hop
  | implied f effect operand run => cases operand.symm.trans hop
  | push f effect operand run => cases operand.symm.trans hop
  | pull f effect operand run => cases operand.symm.trans hop
  | jam mnemonic operand run => cases operand.symm.trans hop
  | branch d f effect operand run => cases operand.symm.trans hop; cases hea
  | jmpAbs w is => subst is; cases hst
  | jmpInd w is => subst is; cases hst
  | jsr w is => subst is; cases hst
  | rts is => subst is; cases hst
  | brk is => subst is; cases hst
  | rti is => subst is; cases hst

/-- Settles O50: a store is at most one read and one write at EA, which keep what `KeptByStore` says, and the class's own
flags. -/
theorem storeFrame : Obligations.StoreFrame := by
  intro i s t md ea hst hop hea hx
  obtain ⟨⟨peek, a, x, y, sp, outside, halted, rest⟩, unwritten, znc⟩ := exec_store hst hop hea hx
  exact ⟨peek, a, x, y, sp, outside, halted, unwritten, znc, rest⟩

end Sys2Proof.Machine
end

section
/-! PROOFS. P as a byte, and the power-on state. -/

namespace Sys2Proof.Machine

open Sys2Proof.Claims

/-- Bit 5 of P as a byte is 1, bit 4 the caller's, and the other six the stored flags (R17). -/
theorem image_bits (f : Flags) (b : Bool) :
    (f.image b).getLsbD 7 = f.n ∧ (f.image b).getLsbD 6 = f.v ∧ (f.image b).getLsbD 5 = true ∧
    (f.image b).getLsbD 4 = b ∧ (f.image b).getLsbD 3 = f.d ∧ (f.image b).getLsbD 2 = f.i ∧
    (f.image b).getLsbD 1 = f.z ∧ (f.image b).getLsbD 0 = f.c := by
  obtain ⟨n, v, d, i, z, c⟩ := f
  revert n v d i z c b
  decide

/-- Loading a pushed image gives back the flags it was made of (R17). -/
theorem ofByte_image (f : Flags) (b : Bool) : Flags.ofByte (f.image b) = f := by
  obtain ⟨hn, hv, -, -, hd, hi, hz, hc⟩ := image_bits f b
  simp only [Flags.ofByte, hn, hv, hd, hi, hz, hc]

/-- Reading back a loaded byte forces bit 5 to 1 and bit 4 to 0, and keeps the other six (R17). -/
theorem toByte_ofByte (m : Byte) : (Flags.ofByte m).toByte = (m &&& 0xCF) ||| 0x20 := by
  obtain ⟨h7, h6, h5, h4, h3, h2, h1, h0⟩ := image_bits (Flags.ofByte m) false
  refine BitVec.eq_of_getLsbD_eq fun k hk => ?_
  have hmask : ((m &&& 0xCF) ||| 0x20).getLsbD k = (m.getLsbD k && (0xCF#8).getLsbD k || (0x20#8).getLsbD k) := by
    simp only [BitVec.getLsbD_or, BitVec.getLsbD_and]; rfl
  rw [hmask]
  unfold Flags.toByte
  interval_cases k <;> simp_all [Flags.ofByte]

/-- Settles O32: the image bit by bit, and what loading a byte keeps of it. -/
theorem statusByteImage : Obligations.StatusByteImage := by
  intro f b m
  obtain ⟨h7, h6, h5, h4, h3, h2, h1, h0⟩ := image_bits f b
  exact ⟨h7, h6, h5, h4, h3, h2, h1, h0, rfl, ofByte_image f b, toByte_ofByte m⟩

/-- Settles O11: the I/O storage lists no byte at power-on, and every other value is the literal in `State.reset`. -/
theorem powerOnState : Obligations.PowerOnState := by
  have hio : ∀ k, 0x4000 ≤ k → k ≤ 0x4015 → State.reset.mem.read k = 0 := fun k _ _ => Memory.read_nil k
  exact ⟨rfl, rfl, rfl, rfl, hio, rfl, rfl, rfl, rfl, rfl, rfl, rfl, rfl, rfl, rfl, rfl, rfl, rfl, rfl, rfl, rfl⟩

/-- An empty storage is canonical. -/
theorem Memory.wf_nil : Memory.wf [] := ⟨.nil, by simp⟩

/-- Settles O58: at power-on every storage is empty and every counter is 0. -/
theorem powerOnMeetsTheInvariant : Obligations.PowerOnMeetsTheInvariant where
  memory_canonical := Memory.wf_nil
  memory_keys := by simp [State.reset]
  cart_canonical := fun m hm => List.mem_singleton.mp hm ▸ Memory.wf_nil
  oam_canonical := Memory.wf_nil
  oam_keys := by simp [State.reset]
  scanline_range := by decide
  dot_range := by decide
  cursor1_range := by decide
  cursor2_range := by decide
  cycles_range := by decide

end Sys2Proof.Machine
end

section
/-! PROOFS. The router: internal RAM and its mirrors, the I/O storage, the gap, and the cartridge view. -/

namespace Sys2Proof.Machine

open Sys2Proof.Claims

/-! ### One access, region by region -/

theorem memRead_io {a : Word} {i : Nat} (h : route a = .io i) (s : State) : memRead a s = .ok (s.mem.read i) s := by
  simp [memRead, h]

theorem memWrite_io {a : Word} {i : Nat} (h : route a = .io i) (v : Byte) (s : State) :
    memWrite a v s = .ok () (s.setMem (s.mem.write i v)) := by simp [memWrite, h]

theorem memRead_gap {a : Word} (h : route a = .unmapped) (s : State) : memRead a s = .unmapped a s := by
  simp [memRead, h]

theorem memWrite_gap {a : Word} (h : route a = .unmapped) (v : Byte) (s : State) : memWrite a v s = .unmapped a s := by
  simp [memWrite, h]

theorem memWrite_port2 (v : Byte) (s : State) : memWrite 0x4017 v s = .ok () { s with io4017w := v } := by
  unfold memWrite; rw [route_port2]

/-! ### The regions, RAM, the I/O storage and the gap -/

/-- Settles O23: each range by its route lemma, and the keys of RAM lie below those of the I/O storage. -/
theorem routerRegions : Obligations.RouterRegions := by
  refine ⟨fun a => ?_, fun a b j k hj hk => ?_⟩
  · rw [toNat_and_07FF, toNat_and_0007]
    have port1 (h : a.toNat = 0x4016) : route a = .pad .one := BitVec.eq_of_toNat_eq (y := 0x4016) h ▸ route_port1
    have port2 (h : a.toNat = 0x4017) : route a = .pad .two := BitVec.eq_of_toNat_eq (y := 0x4017) h ▸ route_port2
    exact ⟨route_ram, route_vreg, route_io, port1, port2, route_gap, route_cart⟩
  · have hram := range_of_route_ram hj
    have hio := range_of_route_io hk
    omega

/-- Settles O24: every mirror of a RAM address has the same backing key, so reading after writing is that of the
storage. -/
theorem ramIsMirrored : Obligations.RamIsMirrored := by
  intro a b v s ha hb
  refine ⟨memRead_ram (route_ram hb) s, _, memWrite_ram (route_ram ha) v s, ?_⟩
  rw [memRead_ram (route_ram hb), State.setMem_mem]
  split
  · next hsame => rw [hsame, Memory.read_write_same]
  · next hdiff => rw [Memory.read_write_other _ _ (Ne.symm hdiff)]

/-- Settles O25: an I/O register is a key of the storage, and 0x4017 has a byte of its own. -/
theorem ioRegistersAreInertStorage : Obligations.IoRegistersAreInertStorage := by
  intro a v s
  refine ⟨fun hlow hhigh => ?_, memWrite_port2 v s, memRead_port2 s⟩
  have hr := route_io hlow hhigh
  refine ⟨memRead_io hr s, Memory.read_nil _, _, memWrite_io hr v s, rfl, ?_, fun k hk => ?_⟩
  · rw [memRead_io hr, State.setMem_mem, Memory.read_write_same]
  · rw [State.setMem_mem, Memory.read_write_other _ _ hk]

/-- A step whose opcode fetch is not served is the fault of that access, after the host's inputs (R80, R151, R153). -/
theorem step_fetch_unmapped {s : State} (hf : s.fetching)
    (hread : memRead s.pc (acceptHost s) = .unmapped s.pc (acceptHost s)) :
    step s = raiseUnmapped s.pc (acceptHost s) := by
  have hfetch : fetchInstruction (acceptHost s) = .unmapped s.pc (acceptHost s) := by
    unfold fetchInstruction; rw [acceptHost_pc, hread]; rfl
  rw [step_fetching hf, execStep, hfetch]; rfl

/-- Settles O26: no access in the gap is served, an opcode fetch among them. -/
theorem gapIsUnmapped : Obligations.GapIsUnmapped := by
  intro a v s hlow hhigh
  have hr := route_gap hlow hhigh
  refine ⟨memRead_gap hr s, memWrite_gap hr v s, fun hf hpc => ?_⟩
  subst hpc
  exact step_fetch_unmapped hf (memRead_gap hr _)

/-! ### The cartridge view -/

/-- A read of a cartridge of windows answers the byte it holds there, and changes nothing (R42, R49). -/
theorem memRead_windows_eq_ok {a : Word} {b : Byte} {s t : State} {ws : List CartWindow} (ha : 0x4020 ≤ a.toNat)
    (hc : s.cart = .windows ws) : memRead a s = .ok b t ↔ s.cart.peek a = some b ∧ t = s := by
  constructor
  · intro h
    obtain ⟨c, hread, rfl⟩ := memRead_cart h (route_cart ha)
    obtain ⟨same, -, -⟩ := Cart.read_frame hread
    obtain ⟨rfl, hpeek⟩ := same ws hc
    exact ⟨hpeek, rfl⟩
  · rintro ⟨hpeek, rfl⟩
    have hread : t.cart.read a = some (b, t.cart) := by
      rw [hc] at hpeek ⊢
      rw [Cart.read_windows, hpeek]; rfl
    exact memRead_cart_some (route_cart ha) hread

/-- A served write to a cartridge of windows is the answer of its windows (R42). -/
theorem memWrite_windows {a : Word} {v : Byte} {s t : State} {ws : List CartWindow} (ha : 0x4020 ≤ a.toNat)
    (hc : s.cart = .windows ws) (h : memWrite a v s = .ok () t) :
    ∃ us, writeWindows a v ws = some us ∧ t = { s with cart := .windows us } := by
  obtain ⟨c, hwrite, rfl⟩ := memWrite_cart h (route_cart ha)
  rw [hc] at hwrite
  simp only [Cart.write, Option.map_eq_some_iff] at hwrite
  obtain ⟨us, hus, rfl⟩ := hwrite
  exact ⟨us, hus, rfl⟩

/-- Settles O27: the view is the cartridge's answer; of a cartridge of windows it is what the windows hold, of which a
write changes the byte it reaches. -/
theorem cartridgeViewIsForwarded : Obligations.CartridgeViewIsForwarded := by
  intro a b v x s t ws ha hb
  have hr := route_cart ha
  refine ⟨?_, ?_, fun hc h => ((memRead_windows_eq_ok ha hc).mp h).2, fun hc h => ?_⟩
  · cases hread : s.cart.read a with
    | none => exact memRead_cart_none hr hread
    | some answer => exact memRead_cart_some hr hread
  · cases hwrite : s.cart.write a v with
    | none => exact memWrite_cart_none hr hwrite
    | some c => exact memWrite_cart_some hr hwrite
  · obtain ⟨us, hus, rfl⟩ := memWrite_windows ha hc h
    refine ⟨fun w hfind hreadable hstored => ?_, fun hother => ?_⟩
    · exact (memRead_windows_eq_ok ha rfl).mpr ⟨writeWindows_peek_same hus hfind hreadable hstored, rfl⟩
    · rw [hc] at hother
      rw [memRead_windows_eq_ok hb rfl, memRead_windows_eq_ok hb hc, writeWindows_peek_other hus hother, hc]
      simp only [and_true]

/-! ### The reference cartridge -/

/-- The window of the reference cartridge covers 0x8000 to 0xFFFF (R43). -/
theorem covers_upper_half {w : CartWindow} (hfirst : w.first = 0x8000) (hlast : w.last = 0xFFFF) (a : Word) :
    w.covers a = decide (0x8000 ≤ a.toNat) := by
  have hle : a.toNat ≤ 0xFFFF := Nat.le_of_lt_succ a.isLt
  simp [CartWindow.covers, hfirst, hlast, hle]

/-- The reference cartridge holds its image, repeated, over 0x8000 to 0xFFFF and nothing below (R43). -/
theorem Cart.reference_peek (prg : Memory) (size : Nat) (a : Word) :
    (Cart.reference prg size).peek a =
      if 0x8000 ≤ a.toNat then some (prg.read ((a.toNat - 0x8000) % size)) else none := by
  by_cases h : 0x8000 ≤ a.toNat
  · simp [Cart.reference, Cart.peek, covers_upper_half, CartWindow.offset, h]
  · simp [Cart.reference, Cart.peek, covers_upper_half, h]

/-- The reference cartridge answers and ignores a write over 0x8000 to 0xFFFF, and answers none below (R43). -/
theorem Cart.reference_write (prg : Memory) (size : Nat) (a : Word) (v : Byte) :
    (Cart.reference prg size).write a v = if 0x8000 ≤ a.toNat then some (Cart.reference prg size) else none := by
  by_cases h : 0x8000 ≤ a.toNat
  · simp [Cart.reference, Cart.write, writeWindows, covers_upper_half, CartWindow.write, h]
  · simp [Cart.reference, Cart.write, writeWindows, covers_upper_half, h]

/-- Settles O28: the view forwards to the one window of the reference cartridge. -/
theorem referenceCartridge : Obligations.ReferenceCartridge := by
  intro prg size a v s _ hc
  have hread : s.cart.read a = ((Cart.reference prg size).peek a).map (·, s.cart) := by rw [hc]; rfl
  have hwrite : s.cart.write a v = (Cart.reference prg size).write a v := by rw [hc]
  rw [Cart.reference_peek] at hread
  rw [Cart.reference_write, ← hc] at hwrite
  refine ⟨fun hin => ?_, fun hview hbelow => ?_⟩
  · have hr := route_cart (a := a) (by omega)
    rw [if_pos hin] at hread hwrite
    exact ⟨memRead_cart_some hr hread, memWrite_cart_some hr hwrite⟩
  · have hr := route_cart hview
    rw [if_neg (by omega)] at hread hwrite
    exact ⟨memRead_cart_none hr hread, memWrite_cart_none hr hwrite⟩

end Sys2Proof.Machine
end

section
/-! PROOFS. What an instruction that stores nothing leaves unchanged. -/

namespace Sys2Proof.Machine

open Sys2Proof.Claims

/-! ### Which instructions store or read through their operand -/

/-- The mnemonics that store where their operand is in memory (R79). -/
def storeMnemonics : List Mnemonic := [.sta, .stx, .sty, .inc, .dec, .asl, .lsr, .rol, .ror]

theorem stores_of_mem {i : Instr} {m : Address} (hk : i.row.mnemonic ∈ storeMnemonics)
    (operand : i.row.operand = .mem m) : storesThroughOperand i = true := by
  unfold storesThroughOperand
  rw [operand]
  generalize i.row.mnemonic = k at hk
  fin_cases hk <;> rfl

theorem StoreSource.stores {k : Mnemonic} {f : State → Byte} (h : StoreSource k f) : k ∈ storeMnemonics := by
  cases h <;> decide

theorem ShiftEffect.stores {k : Mnemonic} {f : Byte → Flags → Byte × Flags} (h : ShiftEffect k f) :
    k ∈ storeMnemonics := by cases h <;> decide

theorem CountEffect.stores {k : Mnemonic} {f : Byte → Byte} (h : CountEffect k f) : k ∈ storeMnemonics := by
  cases h <;> decide

/-- The read class reads memory in every data mode (R79). -/
theorem ReadEffect.reads {i : Instr} {f : Byte → State → State} {m : Address} (h : ReadEffect i.row.mnemonic f)
    (operand : i.row.operand = .mem m) (data : dataMode m) : readsThroughOperand i = true := by
  unfold readsThroughOperand
  rw [operand]
  generalize i.row.mnemonic = k at h
  cases m with
  | ind _ => exact data.elim
  | rel _ => exact data.elim
  | _ => cases h <;> rfl

/-- PHA and PHP push (R95, R96). -/
theorem PushSource.pushes {k : Mnemonic} {f : State → Byte} (h : PushSource k f) : pushedBytes k ≠ 0 := by
  cases h <;> decide

/-! ### The frame of an instruction that stores nothing -/

/-- Only the registers, the flags, `halted` and the cycle count differ. -/
def OnlyCpu (s t : State) : Prop :=
  t = { s with
    a := t.a, x := t.x, y := t.y, sp := t.sp, pc := t.pc, flags := t.flags, halted := t.halted, cycles := t.cycles }

/-- An instruction that stores nothing is served reads, of which there are none unless it reads through its operand, and
then a change of the CPU alone (R79, R93). -/
theorem exec_noStore {i : Instr} {s t : State} (hst : storesThroughOperand i = false)
    (hpush : pushedBytes i.row.mnemonic = 0) (hx : exec i s = .next t) :
    ∃ u, ReadFrame s u ∧ OnlyCpu u t ∧ (readsThroughOperand i = false → u = s) := by
  have unread {t : State} (h : OnlyCpu s t) :
      ∃ u, ReadFrame s u ∧ OnlyCpu u t ∧ (readsThroughOperand i = false → u = s) :=
    ⟨s, .refl s, h, fun _ => rfl⟩
  cases exec_form i with
  | readImm v f effect operand count run =>
    rw [run] at hx; cases hx
    refine unread ?_
    rw [effect.frame]; rfl
  | readMem m f effect operand data low high run =>
    rw [run] at hx
    obtain ⟨r, v, u, -, hread, rfl⟩ := readMem_next data hx
    refine ⟨u, memRead_frame hread, ?_, fun hn => absurd hn (by simp [effect.reads operand data])⟩
    rw [effect.frame]; rfl
  | shiftAcc f effect operand run => rw [run] at hx; cases hx; exact unread rfl
  | implied f effect operand run =>
    rw [run] at hx; cases hx
    refine unread ?_
    rw [effect.frame]; rfl
  | branch d f effect operand run =>
    rw [run] at hx
    obtain ⟨target, c, -, -, rfl⟩ := branch_next hx
    exact unread rfl
  | pull f effect operand run =>
    rw [run, pullByte_eq] at hx; cases hx
    refine unread ?_
    rw [effect.frame]; rfl
  | jmpAbs w is =>
    subst is
    obtain ⟨r, u, hr, bus, rfl⟩ := jump_next (m := .abs w) (c := 3) hx
    cases hr
    exact unread rfl
  | jmpInd w is =>
    subst is
    obtain ⟨r, u, -, bus, rfl⟩ := jump_next (m := .ind w) (c := 5) hx
    exact ⟨u, bus, rfl, fun hn => by cases hn⟩
  | rts is => subst is; cases (execRts_eq s).symm.trans hx; exact unread rfl
  | rti is => subst is; cases (execRti_eq s).symm.trans hx; exact unread rfl
  | jam mnemonic operand run => rw [run] at hx; cases hx; exact unread rfl
  | writeMem m f effect operand data low high run => exact absurd hst (by simp [stores_of_mem effect.stores operand])
  | shiftMem m f effect operand data low high run => exact absurd hst (by simp [stores_of_mem effect.stores operand])
  | countMem m f effect operand data low high run => exact absurd hst (by simp [stores_of_mem effect.stores operand])
  | push f effect operand run => exact absurd hpush effect.pushes
  | jsr w is => subst is; cases hpush
  | brk is => subst is; cases hpush

/-- A read leaves all of the video unit but the vblank flag, the toggle and the address (R49). -/
theorem ReadFrame.videoReadOnly {s t : State} (h : ReadFrame s t) : VideoReadOnly s.video t.video := by
  rw [h.video]; exact ⟨rfl, rfl, rfl, rfl, rfl, rfl, rfl, rfl, rfl, rfl⟩

theorem ReadFrame.outsideKept {s t : State} (h : ReadFrame s t) : OutsideKept s t :=
  ⟨h.cpuKept.resetPending, h.cpuKept.nmiPending, h.cpuKept.fault, h.cpuKept.host, h.cpuKept.hostScript⟩

/-- Settles O52: what the reads leave, and a change of the CPU alone touches no storage and no device. -/
theorem noStoreFrame : Obligations.NoStoreFrame := by
  intro i s t hst hpush hx
  obtain ⟨u, bus, out, unread⟩ := exec_noStore hst hpush hx
  obtain ⟨strobe, io4017w, vramLog⟩ := bus.outputs
  rw [OnlyCpu] at out
  rw [out]
  refine ⟨bus.peek, bus.mem, io4017w, strobe, vramLog, bus.videoReadOnly, bus.outsideKept, bus.windows, fun hn => ?_⟩
  rw [unread hn]
  exact ⟨⟨rfl, rfl, rfl, rfl, rfl, rfl, rfl⟩, rfl⟩

end Sys2Proof.Machine
end

section
/-! PROOFS. Decoding and encoding are inverse; what a step does with an opcode that has no table entry, and with a jam
opcode. -/

namespace Sys2Proof.Machine

open Sys2Proof.Claims

/-! ### Decoding and encoding -/

/-- Settles O1: each constructor's encoding decodes to it alone, and the bytes after it are left. -/
theorem decodeOfEncode : Obligations.DecodeOfEncode := fun i _ hwf =>
  decode_append (Laws.RoundTrip.all i hwf)

/-- The operand bytes are as many as the encoded length says, after the opcode byte (R54). -/
theorem length_encode (i : Instr) : (encode i).length = i.length := by
  have operand_length (o : Operand) : (operandBytes o).length + 1 = o.length := by
    cases o with
    | mem m => cases m <;> rfl
    | _ => rfl
  rw [encode, List.length_cons, operand_length, Instr.length]

/-- Settles O2: the decoder inverted, and the length of an instruction as that of its encoding. -/
theorem encodeOfDecode : Obligations.EncodeOfDecode := by
  intro bs rest i h
  cases bs with
  | nil => cases h
  | cons op tl =>
    obtain ⟨hwf, operands, hencode, rfl, hcount⟩ := decode_inversion h
    refine ⟨hwf, by rw [hencode, List.cons_append], ?_⟩
    rw [← length_encode, hencode, List.length_cons, hcount, List.headD_cons, Nat.add_comm]

/-- Settles O3: the words of each family, through the map and the operand bytes. -/
theorem specExampleWordsDecode : Obligations.SpecExampleWordsDecode :=
  ⟨rfl, rfl, rfl, rfl, rfl, rfl, rfl, rfl, rfl⟩

/-! ### The 93 opcodes without an entry -/

/-- The opcodes R60 lists have no entry in the map (R57, R60). -/
theorem opcodeShape_unlisted {op : Byte} (h : op.toNat ∈ unlistedOpcodes) : opcodeShape op = none := by
  have listed : ∀ n ∈ unlistedOpcodes, (opcodeShape (BitVec.ofNat 8 n)).isNone = true := by decide
  have hop := listed _ h
  rwa [BitVec.ofNat_toNat, BitVec.setWidth_eq, Option.isNone_iff_eq_none] at hop

/-- An opcode that takes no operand is fetched by its own read alone (R55). -/
theorem fetchInstruction_opcode_alone {s s1 : State} {op : Byte} (hread : memRead s.pc s = .ok op s1)
    (hcount : operandCount op = 0) : fetchInstruction s = .ok [op] s1 := by
  unfold fetchInstruction
  rw [hread, Res.bind_ok, hcount, fetchBytes, Res.bind_ok]

/-- Executing an opcode with no entry is the fault that names it, right after its read (R60, R151). -/
theorem execStep_unlisted {s s1 : State} {op : Byte} (hread : memRead s.pc s = .ok op s1)
    (hshape : opcodeShape op = none) : execStep s = raiseUnimplemented op s.pc s1 := by
  have hcount : operandCount op = 0 := by rw [operandCount, hshape]
  have hdecode : decode [op] = .error (.unimplementedOpcode op) := by rw [decode, hshape]
  rw [execStep, fetchInstruction_opcode_alone hread hcount]
  simp only [hdecode]

/-- Settles O5: the fetch reads the opcode alone, and the fault ends the step before any video tick. -/
theorem unlistedOpcodeFaults : Obligations.UnlistedOpcodeFaults := by
  intro s s1 op hf hop hread
  rw [← acceptHost_pc s] at hread
  rw [step_fetching hf, execStep_unlisted hread (opcodeShape_unlisted hop), acceptHost_pc]
  rfl

/-! ### The jam opcodes -/

/-- An instruction whose mnemonic is JAM halts: no other shared operation belongs to that mnemonic (R146). -/
theorem exec_of_jam {i : Instr} (h : i.row.mnemonic = .jam) (s : State) : exec i s = halt s := by
  cases exec_form i with
  | jam mnemonic operand run => exact run s
  | jmpAbs w is | jmpInd w is | jsr w is | rts is | brk is | rti is => subst is; cases h
  | readImm _ _ effect | readMem _ _ effect | writeMem _ _ effect | shiftMem _ _ effect | countMem _ _ effect
  | shiftAcc _ effect | implied _ effect | branch _ _ effect | push _ effect | pull _ effect => exact nomatch h ▸ effect

/-- Settles O43: each jam opcode is the encoding of its instruction, which decodes to it, and whose mnemonic is JAM. -/
theorem jamHalts : Obligations.JamHalts := by
  intro p hp
  have row : p.2.wellFormed = true ∧ encode p.2 = [p.1] ∧ p.2.row.mnemonic = .jam := by
    revert p
    decide
  obtain ⟨hwf, hencode, hjam⟩ := row
  exact ⟨hencode ▸ Laws.RoundTrip.all p.2 hwf, exec_of_jam hjam⟩

end Sys2Proof.Machine
end

section
/-! PROOFS. An access the router cannot serve, and what it stops: no instruction is stopped by anything else. -/

namespace Sys2Proof.Machine

open Sys2Proof.Claims

/-! ### An access that is not served -/

/-- A read stops exactly where the router cannot serve it, and leaves the state as it was (R35, R41). -/
theorem memRead_eq_unmapped {a b : Word} {s t : State} :
    memRead a s = .unmapped b t ↔ b = a ∧ t = s ∧ ReadUnserved a s := by
  constructor
  · intro h
    obtain ⟨hb, ht, hgap | ⟨hcart, hnone⟩⟩ := memRead_unmapped h
    · exact ⟨hb, ht, .inl (range_of_route_unmapped hgap)⟩
    · exact ⟨hb, ht, .inr ⟨range_of_route_cart hcart, hnone⟩⟩
  · rintro ⟨rfl, rfl, ⟨hlow, hhigh⟩ | ⟨hview, hnone⟩⟩
    · exact memRead_gap (route_gap hlow hhigh) _
    · exact memRead_cart_none (route_cart hview) hnone

/-- A write stops exactly where the router cannot serve it, and leaves the state as it was (R36, R41, R42). -/
theorem memWrite_eq_unmapped {a b : Word} {v : Byte} {s t : State} :
    memWrite a v s = .unmapped b t ↔ b = a ∧ t = s ∧ WriteUnserved a v s := by
  constructor
  · intro h
    obtain ⟨hb, ht, hgap | ⟨hcart, hnone⟩⟩ := memWrite_unmapped h
    · exact ⟨hb, ht, .inl (range_of_route_unmapped hgap)⟩
    · exact ⟨hb, ht, .inr ⟨range_of_route_cart hcart, hnone⟩⟩
  · rintro ⟨rfl, rfl, ⟨hlow, hhigh⟩ | ⟨hview, hnone⟩⟩
    · exact memWrite_gap (route_gap hlow hhigh) v _
    · exact memWrite_cart_none (route_cart hview) hnone

theorem memRead_of_unserved {a : Word} {s : State} (h : ReadUnserved a s) : memRead a s = .unmapped a s :=
  memRead_eq_unmapped.mpr ⟨rfl, rfl, h⟩

theorem memWrite_of_unserved {a : Word} {v : Byte} {s : State} (h : WriteUnserved a v s) :
    memWrite a v s = .unmapped a s :=
  memWrite_eq_unmapped.mpr ⟨rfl, rfl, h⟩

theorem ReadFrame.pc {s t : State} (h : ReadFrame s t) : t.pc = s.pc := by rw [h.eq]

theorem WriteFrame.pc {a : Word} {s t : State} (h : WriteFrame a s t) : t.pc = s.pc := by rw [h.eq]

/-! ### What stops an instruction -/

/-- An operation that starts with PC at `pc` goes on in a state that meets `post`, or stops at an access the router
cannot serve with PC still there (R80, R153). -/
def GoesOnOrStops {α : Type} (pc : Word) (post : State → Prop) : Res α → Prop
  | .ok _ t => post t
  | .unmapped a t => t.pc = pc ∧ (ReadUnserved a t ∨ ∃ v, WriteUnserved a v t)

/-- An operation that goes on with PC kept: a part of an instruction before it sets PC. -/
abbrev KeepsPc {α : Type} (pc : Word) (r : Res α) : Prop := GoesOnOrStops pc (·.pc = pc) r

/-- An operation that goes on in a state from which its continuation goes on or stops, does so with it. -/
theorem GoesOnOrStops.bind {α β : Type} {pc : Word} {mid post : State → Prop} {r : Res α} {f : α → State → Res β}
    (h : GoesOnOrStops pc mid r) (hf : ∀ v t, mid t → GoesOnOrStops pc post (f v t)) :
    GoesOnOrStops pc post (r.bind f) := by
  cases r with
  | ok v t => exact hf v t h
  | unmapped a t => exact h

theorem memRead_keepsPc (a : Word) {pc : Word} {s : State} (h : s.pc = pc) : KeepsPc pc (memRead a s) := by
  cases hr : memRead a s with
  | ok b t => exact (memRead_frame hr).pc.trans h
  | unmapped b t =>
    obtain ⟨rfl, rfl, hun⟩ := memRead_eq_unmapped.mp hr
    exact ⟨h, .inl hun⟩

theorem memWrite_keepsPc (a : Word) (v : Byte) {pc : Word} {s : State} (h : s.pc = pc) :
    KeepsPc pc (memWrite a v s) := by
  cases hw : memWrite a v s with
  | ok _ t => exact (memWrite_frame hw).pc.trans h
  | unmapped b t =>
    obtain ⟨rfl, rfl, hun⟩ := memWrite_eq_unmapped.mp hw
    exact ⟨h, .inr ⟨v, hun⟩⟩

theorem memRead16_keepsPc (a b : Word) {pc : Word} {s : State} (h : s.pc = pc) : KeepsPc pc (memRead16 a b s) :=
  .bind (memRead_keepsPc a h) fun _ _ h1 => .bind (memRead_keepsPc b h1) fun _ _ h2 => h2

/-- Resolving an address mode can stop at a pointer only (R80). -/
theorem resolve_keepsPc (m : Address) (s : State) : KeepsPc s.pc (resolve m s) := by
  cases m with
  | izx b => rw [resolve_izx]; exact rfl
  | izy b => rw [resolve_izy]; exact rfl
  | ind w => exact .bind (memRead16_keepsPc _ _ rfl) fun _ _ h => h
  | _ => exact rfl

/-- An outcome from `s` is a next state, or the fault of an access the router cannot serve, with the record written and
PC kept; it is no refusal (R80, R153). -/
def NextOrUnserved (s : State) (o : Out) : Prop :=
  (∃ t, o = .next t) ∨
  (∃ a t, o = .fault (.unmappedAddress a t) ∧ t.fault = some (.unmappedAddress a) ∧ t.pc = s.pc ∧
    (ReadUnserved a t ∨ ∃ v, WriteUnserved a v t))

/-- The end of a step writes the record and nothing else into the state an access stopped in (R21, R153). -/
theorem finish_nextOrUnserved {r : Res Nat} {s : State} (h : GoesOnOrStops s.pc (fun _ => True) r) :
    NextOrUnserved s (finish r) := by
  cases r with
  | ok c t => exact .inl ⟨_, rfl⟩
  | unmapped a t => exact .inr ⟨a, _, rfl, rfl, h⟩

theorem readMem_nextOrUnserved (m : Address) (c : Nat) (f : Byte → State → State) (s : State) :
    NextOrUnserved s (readMem m c f s) :=
  finish_nextOrUnserved <| .bind (resolve_keepsPc m s) fun r _ h1 =>
    .bind (memRead_keepsPc r.ea h1) fun _ _ _ => trivial

theorem writeMem_nextOrUnserved (m : Address) (c : Nat) (v : Byte) (s : State) :
    NextOrUnserved s (writeMem m c v s) :=
  finish_nextOrUnserved <| .bind (resolve_keepsPc m s) fun r _ h1 =>
    .bind (memWrite_keepsPc r.ea v h1) fun _ _ _ => trivial

theorem shiftMem_nextOrUnserved (m : Address) (c : Nat) (f : Byte → Flags → Byte × Flags) (s : State) :
    NextOrUnserved s (shiftMem m c f s) :=
  finish_nextOrUnserved <| .bind (resolve_keepsPc m s) fun r _ h1 =>
    .bind (memRead_keepsPc r.ea h1) fun _ _ h2 => .bind (memWrite_keepsPc r.ea _ h2) fun _ _ _ => trivial

theorem countMem_nextOrUnserved (m : Address) (c : Nat) (f : Byte → Byte) (s : State) :
    NextOrUnserved s (countMem m c f s) :=
  finish_nextOrUnserved <| .bind (resolve_keepsPc m s) fun r _ h1 =>
    .bind (memRead_keepsPc r.ea h1) fun v _ h2 => .bind (memWrite_keepsPc r.ea (f v) h2) fun _ _ _ => trivial

theorem jump_nextOrUnserved (m : Address) (c : Nat) (s : State) : NextOrUnserved s (jump m c s) :=
  finish_nextOrUnserved <| .bind (resolve_keepsPc m s) fun _ _ _ => trivial

/-- An interrupt entry can stop at its vector only: its pushes never do (R127, R150). -/
theorem enterInterrupt_goesOnOrStops (ret : Word) (b : Bool) (vector : Word) (s : State) :
    GoesOnOrStops s.pc (fun _ => True) (enterInterrupt ret b vector s) := by
  rw [enterInterrupt_eq]
  exact .bind (memRead16_keepsPc vector (vector + 1) rfl) fun _ _ _ => trivial

theorem execBrk_nextOrUnserved (s : State) : NextOrUnserved s (execBrk s) :=
  finish_nextOrUnserved <| .bind (enterInterrupt_goesOnOrStops _ _ _ s) fun _ _ _ => trivial

/-- Settles O14: each shared operation goes on, or stops at one of its own accesses before it sets PC. -/
theorem onlyUnmappedAccessStopsAnInstruction : Obligations.OnlyUnmappedAccessStopsAnInstruction := by
  intro i s
  show NextOrUnserved s (exec i s)
  cases exec_form i with
  | readMem m f effect operand data low high run => rw [run]; exact readMem_nextOrUnserved m _ f s
  | writeMem m f effect operand data low high run => rw [run]; exact writeMem_nextOrUnserved m _ (f s) s
  | shiftMem m f effect operand data low high run => rw [run]; exact shiftMem_nextOrUnserved m _ f s
  | countMem m f effect operand data low high run => rw [run]; exact countMem_nextOrUnserved m _ f s
  | jmpAbs w is => subst is; exact jump_nextOrUnserved (.abs w) 3 s
  | jmpInd w is => subst is; exact jump_nextOrUnserved (.ind w) 5 s
  | brk is => subst is; exact execBrk_nextOrUnserved s
  | readImm v f effect operand count run => exact .inl ⟨_, run s⟩
  | shiftAcc f effect operand run => exact .inl ⟨_, run s⟩
  | implied f effect operand run => exact .inl ⟨_, run s⟩
  | jam mnemonic operand run => exact .inl ⟨_, run s⟩
  | branch d f effect operand run => exact .inl ⟨_, (run s).trans (branch_eq _ d s)⟩
  | push f effect operand run => exact .inl ⟨_, (run s).trans (pushByte_eq _ s)⟩
  | pull f effect operand run => exact .inl ⟨_, (run s).trans (pullByte_eq f s)⟩
  | jsr w is => subst is; exact .inl ⟨_, execJsr_eq w s⟩
  | rts is => subst is; exact .inl ⟨_, execRts_eq s⟩
  | rti is => subst is; exact .inl ⟨_, execRti_eq s⟩

end Sys2Proof.Machine
end

section
/-! PROOFS. The operand classes with their operand in memory, and where an unserved operand access stops each. -/

namespace Sys2Proof.Machine

open Sys2Proof.Claims

/-! ### The effects by the spec's arithmetic -/

theorem add_one_eq_ofNat (m : Byte) : m + 1 = BitVec.ofNat 8 ((m.toNat + 1) % 256) := by
  apply BitVec.eq_of_toNat_eq; simp

theorem sub_one_eq_ofNat (m : Byte) : m - 1 = BitVec.ofNat 8 ((m.toNat + 255) % 256) := by
  apply BitVec.eq_of_toNat_eq; simp [BitVec.toNat_sub, Nat.add_comm]

/-- ASL doubles (R118). -/
theorem aslCore_result (m : Byte) (g : Flags) : (aslCore m g).1 = shiftResult .asl m g.c := by
  apply BitVec.eq_of_toNat_eq
  simp [aslCore, shiftResult, Nat.shiftLeft_eq, Nat.mul_comm]

/-- LSR halves (R119). -/
theorem lsrCore_result (m : Byte) (g : Flags) : (lsrCore m g).1 = shiftResult .lsr m g.c := by
  apply BitVec.eq_of_toNat_eq
  have := m.isLt
  simp [lsrCore, shiftResult, Nat.shiftRight_eq_div_pow]
  omega

/-- ROL doubles and adds the old carry, which enters at the cleared bit 0 (R120). -/
theorem rolCore_result (m : Byte) (g : Flags) : (rolCore m g).1 = shiftResult .rol m g.c := by
  have disjoint : m <<< 1 &&& bitByte g.c = 0 := by
    cases g.c
    · exact BitVec.and_zero
    · show m <<< 1 &&& 1#8 = 0
      rw [BitVec.and_one_eq_setWidth_ofBool_getLsbD, BitVec.getLsbD_shiftLeft]
      rfl
  have carry : (bitByte g.c).toNat = g.c.toNat := by cases g.c <;> rfl
  apply BitVec.eq_of_toNat_eq
  show (m <<< 1 ||| bitByte g.c).toNat = (shiftResult .rol m g.c).toNat
  rw [← BitVec.add_eq_or_of_and_eq_zero _ _ disjoint, BitVec.toNat_add, carry, BitVec.toNat_shiftLeft, Nat.shiftLeft_eq]
  simp only [shiftResult, BitVec.toNat_ofNat]
  omega

/-- ROR halves and puts the old carry in the cleared bit 7 (R121). -/
theorem rorCore_result (m : Byte) (g : Flags) : (rorCore m g).1 = shiftResult .ror m g.c := by
  have half : m.toNat >>> 1 < 2 ^ 7 := by rw [Nat.shiftRight_eq_div_pow]; have := m.isLt; omega
  have carry : (bitByte g.c <<< 7).toNat = g.c.toNat <<< 7 := by cases g.c <;> rfl
  apply BitVec.eq_of_toNat_eq
  calc (rorCore m g).1.toNat
    _ = g.c.toNat <<< 7 ||| m.toNat >>> 1 := by
      rw [← carry, ← BitVec.toNat_ushiftRight, ← BitVec.toNat_or]; rfl
    _ = 128 * g.c.toNat + m.toNat / 2 := by
      rw [← Nat.shiftLeft_add_eq_or_of_lt half, Nat.shiftLeft_eq, Nat.shiftRight_eq_div_pow, Nat.mul_comm]
    _ = (shiftResult .ror m g.c).toNat := by
      have := m.isLt
      have := g.c.toNat_le
      simp only [shiftResult, BitVec.toNat_ofNat]
      omega

/-- A shift or rotate gives the spec's result and flags (R117 to R121). -/
theorem ShiftEffect.eq_spec {k : Mnemonic} {f : Byte → Flags → Byte × Flags} (h : ShiftEffect k f) (m : Byte)
    (g : Flags) : f m g = (shiftResult k m g.c, afterShift k m g) := by
  cases h with
  | asl => rw [afterShift, ← aslCore_result]; rfl
  | lsr => rw [afterShift, ← lsrCore_result]; rfl
  | rol => rw [afterShift, ← rolCore_result]; rfl
  | ror => rw [afterShift, ← rorCore_result]; rfl

/-! ### The operand classes in memory -/

/-- The class of an instruction with mnemonic `k` whose data operand is in memory by mode `md` (R79). -/
inductive MemoryClass (i : Instr) (md : Address) (k : Mnemonic) : Prop
  | read (f : Byte → State → State) (effect : ReadEffect k f) (run : ∀ s, exec i s = readMem md i.row.cycles f s)
  | write (f : State → Byte) (effect : StoreSource k f) (run : ∀ s, exec i s = writeMem md i.row.cycles (f s) s)
  | shift (f : Byte → Flags → Byte × Flags) (effect : ShiftEffect k f)
      (run : ∀ s, exec i s = shiftMem md i.row.cycles f s)
  | count (f : Byte → Byte) (effect : CountEffect k f) (run : ∀ s, exec i s = countMem md i.row.cycles f s)

/-- An instruction with a data address, other than JMP and JSR, belongs to one of the four classes. -/
theorem exec_memoryClass {i : Instr} {md : Address} {ea : Word} {s : State} (hop : i.row.operand = .mem md)
    (hea : dataAddress md s = some ea) (hk : i.row.mnemonic ∉ [Mnemonic.jmp, .jsr]) :
    MemoryClass i md i.row.mnemonic := by
  cases exec_form i with
  | readMem m f effect operand data low high run => cases operand.symm.trans hop; exact .read f effect run
  | writeMem m f effect operand data low high run => cases operand.symm.trans hop; exact .write f effect run
  | shiftMem m f effect operand data low high run => cases operand.symm.trans hop; exact .shift f effect run
  | countMem m f effect operand data low high run => cases operand.symm.trans hop; exact .count f effect run
  | branch d f effect operand run => cases operand.symm.trans hop; cases hea
  | jmpAbs w is | jmpInd w is | jsr w is => subst is; exact absurd (by simp [Instr.row]) hk
  | rts is | brk is | rti is => subst is; cases hop
  | readImm _ _ _ operand | shiftAcc _ _ operand | implied _ _ operand | push _ _ operand | pull _ _ operand
  | jam _ operand => cases operand.symm.trans hop

/-- A mode with a data address resolves to it, and changes nothing (R68 to R75). -/
theorem resolve_of_dataAddress {m : Address} {ea : Word} {s : State} (h : dataAddress m s = some ea) :
    ∃ crossed, resolve m s = .ok ⟨ea, crossed⟩ s := by
  have data : dataMode m := by
    cases m with
    | ind w => cases h
    | rel d => cases h
    | _ => trivial
  obtain ⟨r, hr⟩ := resolve_dataMode data s
  exact ⟨r.crossed, by rw [hr, ← resolve_dataAddress h hr]⟩

/-! ### Where an unserved operand access stops each class -/

section
variable {i : Instr} {md : Address} {k : Mnemonic} {ea : Word} {s s1 : State} {m v : Byte}

/-- An unserved operand read stops the read class and the read-modify-writes before any effect (R79, R80). -/
theorem MemoryClass.stops_at_read (form : MemoryClass i md k) (hea : dataAddress md s = some ea)
    (hk : k ∉ [Mnemonic.sta, .stx, .sty]) (hr : ReadUnserved ea s) : exec i s = raiseUnmapped ea s := by
  obtain ⟨crossed, hres⟩ := resolve_of_dataAddress hea
  have hread := memRead_of_unserved hr
  cases form with
  | read f effect run => simp only [run, readMem, hres, hread, Res.bind_ok, Res.bind_unmapped, finish_unmapped]
  | shift f effect run => simp only [run, shiftMem, hres, hread, Res.bind_ok, Res.bind_unmapped, finish_unmapped]
  | count f effect run => simp only [run, countMem, hres, hread, Res.bind_ok, Res.bind_unmapped, finish_unmapped]
  | write f effect run => exact absurd (by cases effect <;> decide) hk

/-- An unserved write stops a store before any effect (R79, R80). -/
theorem MemoryClass.stops_at_store (form : MemoryClass i md k) (hea : dataAddress md s = some ea)
    (hv : k = .sta ∧ v = s.a ∨ k = .stx ∧ v = s.x ∨ k = .sty ∧ v = s.y) (hw : WriteUnserved ea v s) :
    exec i s = raiseUnmapped ea s := by
  obtain ⟨crossed, hres⟩ := resolve_of_dataAddress hea
  cases form with
  | write f effect run =>
    have stored : f s = v := by cases effect <;> simpa [eq_comm] using hv
    simp only [run, writeMem, hres, stored, memWrite_of_unserved hw, Res.bind_ok, Res.bind_unmapped, finish_unmapped]
  | read f effect run | shift f effect run | count f effect run => cases effect <;> simp at hv

/-- An unserved write stops INC and DEC after the read, before the flags (R111, R112). -/
theorem MemoryClass.stops_at_count (form : MemoryClass i md k) (hea : dataAddress md s = some ea)
    (hv : k = .inc ∧ v = BitVec.ofNat 8 ((m.toNat + 1) % 256) ∨ k = .dec ∧ v = BitVec.ofNat 8 ((m.toNat + 255) % 256))
    (hread : memRead ea s = .ok m s1) (hw : WriteUnserved ea v s1) : exec i s = raiseUnmapped ea s1 := by
  obtain ⟨crossed, hres⟩ := resolve_of_dataAddress hea
  rw [← add_one_eq_ofNat, ← sub_one_eq_ofNat] at hv
  cases form with
  | count f effect run =>
    have counted : f m = v := by cases effect <;> simpa [eq_comm] using hv
    simp only [run, countMem, hres, hread, counted, memWrite_of_unserved hw, Res.bind_ok, Res.bind_unmapped,
      finish_unmapped]
  | read f effect run | write f effect run | shift f effect run => cases effect <;> simp at hv

/-- An unserved write stops a shift or rotate after the read and the flags (R117). -/
theorem MemoryClass.stops_at_shift (form : MemoryClass i md k) (hea : dataAddress md s = some ea)
    (hk : k ∈ [Mnemonic.asl, .lsr, .rol, .ror]) (hread : memRead ea s = .ok m s1)
    (hw : WriteUnserved ea (shiftResult k m s.flags.c) s1) :
    exec i s = raiseUnmapped ea (s1.setFlags (afterShift k m s.flags)) := by
  obtain ⟨crossed, hres⟩ := resolve_of_dataAddress hea
  have hflags : s1.flags = s.flags := (memRead_frame hread).cpuKept.flags
  have hwrite := memWrite_of_unserved (s := s1.setFlags (afterShift k m s.flags)) hw
  cases form with
  | shift f effect run =>
    simp only [run, shiftMem, hres, hread, hflags, effect.eq_spec, hwrite, Res.bind_ok, Res.bind_unmapped,
      finish_unmapped]
  | read f effect run | write f effect run | count f effect run => cases effect <;> simp at hk

end

/-- Settles O15: the class of the instruction says which access stops it, and what it did before. -/
theorem unservedOperandStopsTheInstruction : Obligations.UnservedOperandStopsTheInstruction := by
  intro i s s1 md ea m v hop hea hk
  have form := exec_memoryClass hop hea hk
  exact ⟨form.stops_at_read hea, form.stops_at_store hea, form.stops_at_count hea, form.stops_at_shift hea⟩

end Sys2Proof.Machine
end

section
/-! PROOFS. The read class with a readable operand, the write class with a served store, and the loads, stores and
register instructions. -/

namespace Sys2Proof.Machine

open Sys2Proof.Claims

/-! ### Resolving with the page-cross cycle -/

theorem indexed_eq (base : Word) (index : Byte) :
    indexed base index =
      { ea := base + index.setWidth 16, crossed := hi (base + index.setWidth 16) != hi base } := by
  rw [indexed, bne_comm]
  simp only [bne, beq_eq_decide, ne_eq, decide_not]

/-- A mode with a data address resolves to it, crossed as the spec's formula says (R68 to R75, R78). -/
theorem resolve_eq_of_dataAddress {m : Address} {ea : Word} {s : State} (h : dataAddress m s = some ea) :
    resolve m s = .ok { ea := ea, crossed := pageCrossed m s } s := by
  cases m with
  | zp b => cases h; simp only [resolve, join_zero, pageCrossed]
  | zpx b => cases h; simp only [resolve, join_zero, pageCrossed]
  | zpy b => cases h; simp only [resolve, join_zero, pageCrossed]
  | abs w => cases h; rfl
  | abx w => cases h; simp only [resolve, indexed_eq, pageCrossed]
  | aby w => cases h; simp only [resolve, indexed_eq, pageCrossed]
  | izx b => cases h; exact resolve_izx b s
  | izy b => cases h; rw [resolve_izy, indexed_eq]; rfl
  | ind w => cases h
  | rel d => cases h

/-! ### The read class with a readable operand -/

/-- The operand of a read-class instruction is read by at most one bus read (R79). -/
theorem readFrame_of_operandReads {o : Operand} {s s1 : State} {m : Byte} {extra : Nat}
    (h : OperandReads o s m extra s1) : ReadFrame s s1 := by
  cases o with
  | imm v => obtain ⟨-, rfl, -⟩ := h; exact .refl s1
  | mem md => obtain ⟨⟨ea, -, hread⟩, -⟩ := h; exact memRead_frame hread
  | imp | acc => exact h.elim

/-- A bus read leaves the address of the next instruction (R15). -/
theorem ReadFrame.nextPc_eq {s s1 : State} (h : ReadFrame s s1) (i : Instr) : nextPc i s1 = nextPc i s := by
  rw [nextPc, h.pc]; rfl

/-- A mnemonic has one read effect. -/
theorem ReadEffect.unique {k : Mnemonic} {f g : Byte → State → State} (hf : ReadEffect k f) (hg : ReadEffect k g) :
    f = g := by
  cases hf <;> cases hg <;> rfl

/-- Only the read class has immediate forms (R67). -/
theorem exec_immediate {i : Instr} {v : Byte} (hop : i.row.operand = .imm v) :
    ∃ f, ReadEffect i.row.mnemonic f ∧ i.row.cycles = 2 ∧ ∀ s, exec i s = readImm v f s := by
  cases exec_form i with
  | readImm w f effect operand count run => cases operand.symm.trans hop; exact ⟨f, effect, count, run⟩
  | jmpAbs w is | jmpInd w is | jsr w is | rts is | brk is | rti is => subst is; cases hop
  | readMem _ _ _ operand | writeMem _ _ _ operand | shiftMem _ _ _ operand | countMem _ _ _ operand
  | shiftAcc _ _ operand | implied _ _ operand | branch _ _ _ operand | push _ _ operand | pull _ _ operand
  | jam _ operand => cases operand.symm.trans hop

/-- An instruction with a read effect and its operand in memory is a `readMem` of that effect (R79). -/
theorem MemoryClass.exec_of_read {i : Instr} {md : Address} {k : Mnemonic} {f : Byte → State → State}
    (form : MemoryClass i md k) (effect : ReadEffect k f) (s : State) : exec i s = readMem md i.row.cycles f s := by
  cases form with
  | read g effect' run => rw [effect.unique effect']; exact run s
  | write _ other | shift _ other | count _ other => cases other <;> cases effect

/-- A read-class instruction whose operand can be read completes: its effect on the operand, PC past the
instruction, and the base cycles with the page-cross cycle (R67, R78, R79). -/
theorem ReadEffect.exec_eq {i : Instr} {k : Mnemonic} {f : Byte → State → State} {s s1 : State} {m : Byte}
    {extra : Nat} (effect : ReadEffect k f) (hk : i.row.mnemonic = k)
    (h : OperandReads i.row.operand s m extra s1) :
    exec i s = .next (((f m s1).advance i.length).setCycles (i.row.cycles + extra)) := by
  unfold Instr.length
  cases hop : i.row.operand with
  | imm v =>
    rw [hop] at h
    obtain ⟨rfl, rfl, rfl⟩ := h
    obtain ⟨g, effect', count, run⟩ := exec_immediate hop
    rw [run, count, effect.unique (hk ▸ effect')]
    rfl
  | mem md =>
    rw [hop] at h
    obtain ⟨⟨ea, hea, hread⟩, rfl⟩ := h
    have notJump : i.row.mnemonic ∉ [Mnemonic.jmp, .jsr] := by rw [hk]; cases effect <;> decide
    have form : MemoryClass i md k := hk ▸ exec_memoryClass hop hea notJump
    simp only [form.exec_of_read effect, readMem, resolve_eq_of_dataAddress hea, hread, Res.bind_ok, finish_ok]
    rfl
  | imp | acc => rw [hop] at h; exact h.elim

/-- Settles O33: each is the read class with the load of its register. -/
theorem loadInstructions : Obligations.LoadInstructions := by
  intro i s s1 m extra h
  have bus := readFrame_of_operandReads h
  rw [← bus.cpuKept.flags, ← bus.nextPc_eq]
  exact ⟨fun hk => ReadEffect.lda.exec_eq hk h, fun hk => ReadEffect.ldx.exec_eq hk h,
    fun hk => ReadEffect.ldy.exec_eq hk h⟩

/-! ### The write class with a served store -/

/-- A store with its operand in memory is a `writeMem` of its register (R84 to R86). -/
theorem MemoryClass.exec_of_store {i : Instr} {md : Address} {k : Mnemonic} {v : Byte} {s : State}
    (form : MemoryClass i md k) (hv : k = .sta ∧ v = s.a ∨ k = .stx ∧ v = s.x ∨ k = .sty ∧ v = s.y) :
    exec i s = writeMem md i.row.cycles v s := by
  cases form with
  | write f effect run =>
    have stored : f s = v := by cases effect <;> simpa [eq_comm] using hv
    rw [run, stored]
  | read _ other | shift _ other | count _ other => cases other <;> simp at hv

/-- Settles O38: each is the write class with its register. -/
theorem storeInstructions : Obligations.StoreInstructions := by
  intro i s s1 md ea v hop hea hv hwrite
  have notJump : i.row.mnemonic ∉ [Mnemonic.jmp, .jsr] := by
    obtain ⟨hk, -⟩ | ⟨hk, -⟩ | ⟨hk, -⟩ := hv <;> rw [hk] <;> decide
  calc exec i s
    _ = writeMem md i.row.cycles v s := (exec_memoryClass hop hea notJump).exec_of_store hv
    _ = .next ((s1.advance md.length).setCycles i.row.cycles) := by
      simp only [writeMem, resolve_eq_of_dataAddress hea, hwrite, Res.bind_ok, finish_ok]
    _ = .next { s1 with pc := nextPc i s, cycles := i.row.cycles } := by
      rw [nextPc, Instr.length, hop, ← (memWrite_frame hwrite).pc]; rfl

/-! ### The register instructions -/

/-- A one-byte instruction with no bus access goes on with its effect, PC past it, after 2 cycles (R65). -/
theorem implied_eq (f : State → State) (s : State) :
    implied f s = .next { f s with pc := (f s).pc + 1, cycles := 2 } := rfl

/-- Settles O41: each is a one-byte instruction with no bus access, by the effect its arm of `exec` names. -/
theorem registerInstructions : Obligations.RegisterInstructions := fun s =>
  ⟨implied_eq _ s, implied_eq _ s, implied_eq _ s, implied_eq _ s, implied_eq _ s,
    implied_eq (fun s => s.setSp s.x) s, implied_eq _ s, implied_eq _ s, implied_eq _ s, implied_eq _ s⟩

end Sys2Proof.Machine
end

section
/-! PROOFS. The stack instructions, and what an instruction that pushes leaves unchanged. -/

namespace Sys2Proof.Machine

open Sys2Proof.Claims

/-! ### The stack instructions -/

/-- Settles O44: each is a one-byte push or pull, whose stack access page 1 always serves. -/
theorem stackInstructions : Obligations.StackInstructions := fun s =>
  ⟨pushByte_eq s.a s, pushByte_eq (s.flags.image true) s, pullByte_eq loadA s,
    pullByte_eq (fun m s => s.setFlags (Flags.ofByte m)) s⟩

/-! ### The bytes of storage a push leaves -/

/-- The address reaches none of the `n` stack bytes pushed from `sp` downward (R45, R93). -/
def OffPushedStack (n : Nat) (sp : Byte) (b : Word) : Prop :=
  ∀ k, k < n → route b ≠ .ram (stackIndex (sp - BitVec.ofNat 8 k))

/-- A stack byte written leaves every other byte of storage (R45, R93). -/
theorem peek_stackWrite {s : State} {p v : Byte} {b : Word} (h : route b ≠ .ram (stackIndex p)) :
    (s.setMem (s.mem.write (stackIndex p) v)).peek b = s.peek b :=
  memWrite_peek_other (memWrite_ram (route_stackAddr p) v s) (.inl (by rwa [route_stackAddr]))

theorem OffPushedStack.first {n : Nat} {sp : Byte} {b : Word} (h : OffPushedStack (n + 1) sp b) :
    route b ≠ .ram (stackIndex sp) := by
  simpa using h 0 (Nat.succ_pos n)

/-- Two bytes pushed leave every other byte of storage (R94). -/
theorem peek_stackWrite_two {s : State} {v w : Byte} {n : Nat} {b : Word} (h : OffPushedStack (n + 2) s.sp b) :
    (s.setMem ((s.mem.write (stackIndex s.sp) v).write (stackIndex (s.sp - 1)) w)).peek b = s.peek b :=
  (peek_stackWrite (s := s.setMem (s.mem.write (stackIndex s.sp) v)) (h 1 (by omega))).trans (peek_stackWrite h.first)

/-- The entry of an interrupt leaves every byte of storage but the three it pushes (R127, R150). -/
theorem peek_entered {ret : Word} {f : Bool} {s : State} {b : Word} (h : OffPushedStack 3 s.sp b) :
    (entered ret f s).peek b = s.peek b :=
  (peek_stackWrite (s := s.setMem _) (h 2 (by omega))).trans (peek_stackWrite_two h)

/-! ### The frame of an instruction that pushes -/

/-- What mnemonic `k` leaves when it pushes `n` bytes: all but S, PC, I, the cycle count, the cartridge and the stack
bytes pushed; the cartridge and the flags are BRK's alone to change, and a cartridge of windows it leaves too. -/
structure PushKept (k : Mnemonic) (n : Nat) (s t : State) : Prop where
  eq : t = { s with
    mem := t.mem, sp := s.sp - BitVec.ofNat 8 n, pc := t.pc, flags := { s.flags with i := t.flags.i }
    cart := t.cart, cycles := t.cycles }
  peek : ∀ b, OffPushedStack n s.sp b → t.peek b = s.peek b
  notBrk : t.flags = s.flags ∧ t.cart = s.cart ∨ k = .brk
  windows : WindowsKept s t

/-- The instructions that push (R95, R96, R124, R127). -/
theorem pushing_cases {i : Instr} (h : 0 < pushedBytes i.row.mnemonic) :
    i = .pha ∨ i = .php ∨ (∃ w, i = .jsr w) ∨ i = .brk := by
  cases i with
  | pha => exact .inl rfl
  | php => exact .inr (.inl rfl)
  | jsr w => exact .inr (.inr (.inl ⟨w, rfl⟩))
  | brk => exact .inr (.inr (.inr rfl))
  | _ => exact absurd h (Nat.lt_irrefl 0)

/-- A one-byte push writes its stack byte, S and PC (R95, R96). -/
theorem pushByte_kept {k : Mnemonic} {v : Byte} {s t : State} (h : pushByte v s = .next t) : PushKept k 1 s t := by
  cases (pushByte_eq v s).symm.trans h
  exact ⟨rfl, fun b hb => peek_stackWrite (s := s) hb.first, .inl ⟨rfl, rfl⟩, fun _ _ => rfl⟩

/-- JSR writes its two stack bytes, S and PC (R124). -/
theorem execJsr_kept {w : Word} {s t : State} (h : execJsr w s = .next t) : PushKept .jsr 2 s t := by
  cases (execJsr_eq w s).symm.trans h
  exact ⟨rfl, fun b hb => peek_stackWrite_two (s := s) (n := 0) hb, .inl ⟨rfl, rfl⟩, fun _ _ => rfl⟩

/-- BRK is its entry, then the vector read, which leaves all but the cartridge (R44, R127). -/
theorem execBrk_kept {s t : State} (h : execBrk s = .next t) : PushKept .brk 3 s t := by
  obtain ⟨out, bus⟩ := execBrk_next h
  refine ⟨by rw [out]; rfl, fun b hb => ?_, .inr rfl, bus.windows⟩
  calc t.peek b
    _ = State.peek { entered (s.pc + 2) true s with cart := t.cart } b := by rw [out]; rfl
    _ = (entered (s.pc + 2) true s).peek b := bus.peek b
    _ = s.peek b := peek_entered hb

theorem exec_push {i : Instr} {s t : State} (hpush : 0 < pushedBytes i.row.mnemonic) (hx : exec i s = .next t) :
    PushKept i.row.mnemonic (pushedBytes i.row.mnemonic) s t := by
  obtain rfl | rfl | ⟨w, rfl⟩ | rfl := pushing_cases hpush
  · exact pushByte_kept (v := s.a) hx
  · exact pushByte_kept (v := s.flags.image true) hx
  · exact execJsr_kept hx
  · exact execBrk_kept hx

/-- Settles O51: PHA, PHP, JSR and BRK are stack writes, then changes of S, PC and, for BRK, I, and BRK's read of its
vector. -/
theorem pushFrame : Obligations.PushFrame := by
  intro i s t hpush hx
  obtain ⟨eq, peek, notBrk, windows⟩ := exec_push hpush hx
  have outside : OutsideKept s t := by rw [eq]; exact ⟨rfl, rfl, rfl, rfl, rfl⟩
  have devices : DevicesKept s t := by rw [eq]; exact ⟨rfl, rfl, rfl, rfl, rfl, rfl, rfl⟩
  exact ⟨peek, by rw [eq], by rw [eq], by rw [eq], by rw [eq], by rw [eq], notBrk.imp_left And.left, outside,
    by rw [eq], devices, windows, fun hk => (notBrk.resolve_right hk).2⟩

end Sys2Proof.Machine
end

section
/-! PROOFS. Arithmetic and logic: what AddCore and Compare compute, the read class and INC and DEC with a served operand, and
that the decimal flag takes no part in ADC and SBC. -/

namespace Sys2Proof.Machine

open Sys2Proof.Claims

/-! ### AddCore as arithmetic -/

/-- The sign bit of a byte. -/
theorem getLsbD_seven_eq_neg (b : Byte) : b.getLsbD 7 = decide (b.toInt < 0) := by
  rw [← BitVec.msb_eq_toInt, BitVec.msb_eq_getLsbD_last]

/-- A byte is a signed number from -128 to 127. -/
theorem toInt_range (b : Byte) : -128 ≤ b.toInt ∧ b.toInt ≤ 127 :=
  ⟨BitVec.le_toInt b, Int.le_of_lt_add_one (BitVec.toInt_lt (x := b))⟩

/-- The complement is the negative less one. -/
theorem toInt_complement (b : Byte) : (~~~b).toInt = -b.toInt - 1 := by
  have := b.isLt
  simp only [BitVec.toInt_eq_toNat_cond, BitVec.toNat_not]
  omega

/-- AddCore's result is the sum with the carry, modulo 256 (R100). -/
theorem addCore_result (a m : Byte) (f : Flags) : (addCore a m f).1 = a + m + BitVec.ofNat 8 f.c.toNat := by
  simp only [addCore, BitVec.ofNat_add, BitVec.ofNat_toNat, BitVec.setWidth_eq]

/-- AddCore's carry is that of the unsigned sum (R100). -/
theorem addCore_carry (a m : Byte) (f : Flags) :
    (addCore a m f).2.c = true ↔ 256 ≤ a.toNat + m.toNat + f.c.toNat :=
  decide_eq_true_iff

/-- AddCore's result, as a signed number, is the signed sum wrapped into a byte. -/
theorem toInt_addCore_result (a m : Byte) (f : Flags) :
    (addCore a m f).1.toInt = (a.toInt + m.toInt + f.c.toNat).bmod 256 := by
  have carry : (BitVec.ofNat 8 f.c.toNat).toInt = f.c.toNat := by cases f.c <;> rfl
  rw [addCore_result, BitVec.toInt_add, BitVec.toInt_add, carry]
  exact Int.bmod_add_bmod

/-- AddCore's V, from the signs of its operands and its result (R100). -/
theorem addCore_overflow_signs (a m : Byte) (f : Flags) :
    (addCore a m f).2.v = true ↔
      (a.toInt < 0 ↔ m.toInt < 0) ∧ ¬((addCore a m f).1.toInt < 0 ↔ a.toInt < 0) := by
  have signs : (addCore a m f).2.v =
      ((a.getLsbD 7 == m.getLsbD 7) && ((addCore a m f).1.getLsbD 7 != a.getLsbD 7)) := rfl
  rw [signs]
  simp only [getLsbD_seven_eq_neg, Bool.and_eq_true, beq_iff_eq, bne_iff_ne, ne_eq, decide_eq_decide]

/-- AddCore's V is signed overflow: equal signs whose sum changes sign are a sum no byte holds (R100). -/
theorem addCore_overflow (a m : Byte) (f : Flags) :
    (addCore a m f).2.v = true ↔
      a.toInt + m.toInt + f.c.toNat < -128 ∨ 127 < a.toInt + m.toInt + f.c.toNat := by
  rw [addCore_overflow_signs, toInt_addCore_result, Int.bmod]
  have := toInt_range a
  have := toInt_range m
  have := f.c.toNat_le
  omega

/-- The addition of the complement is subtraction with borrow (R102). -/
theorem addCore_complement_result (a m : Byte) (f : Flags) :
    (addCore a (~~~m) f).1 = a - m - BitVec.ofNat 8 (1 - f.c.toNat) := by
  have complement : ~~~m = -m - 1 := eq_sub_of_add_eq (BitVec.neg_eq_not_add m).symm
  rw [addCore_result, complement]
  cases f.c
  · show a + (-m - 1) + 0 = a - m - 1
    ring
  · show a + (-m - 1) + 1 = a - m - 0
    ring

/-- Settles O35: the complement of M is 255 - M unsigned and -M - 1 signed, so SBC's clauses are ADC's of the complement. -/
theorem addCoreIsSignedAndUnsignedArithmetic : Obligations.AddCoreIsSignedAndUnsignedArithmetic := by
  intro a m f
  refine ⟨addCore_result a m f, addCore_carry a m f, addCore_overflow a m f, addCore_complement_result a m f, ?_, ?_, rfl⟩
  · rw [addCore_carry, BitVec.toNat_not]
    have := m.isLt
    omega
  · rw [addCore_overflow, toInt_complement]
    omega

/-! ### The read class: ADC, SBC, the logic instructions, the compares and BIT -/

/-- ADC's effect is the spec's AddCore (R100, R101). -/
theorem addA_eq_afterAdd (m : Byte) (s : State) : addA m s = afterAdd s s.a m s.flags.c := by
  have result : BitVec.ofNat 8 (sum9 s.a m s.flags.c % 256) = (addCore s.a m s.flags).1 :=
    BitVec.eq_of_toNat_eq (by simp [sum9, addCore])
  have overflow : decide (s.a.getLsbD 7 = m.getLsbD 7 ∧ (addCore s.a m s.flags).1.getLsbD 7 ≠ s.a.getLsbD 7) =
      (addCore s.a m s.flags).2.v := by
    rw [Bool.decide_and, decide_not]; rfl
  simp only [afterAdd, result, overflow]
  rfl

/-- Settles O34: each is the read class with AddCore, of the operand or of its complement. -/
theorem addAndSubtractInstructions : Obligations.AddAndSubtractInstructions := by
  intro i s s1 m extra h
  have bus := readFrame_of_operandReads h
  rw [← bus.cpuKept.a, ← bus.cpuKept.flags, ← bus.nextPc_eq, ← addA_eq_afterAdd, ← addA_eq_afterAdd]
  exact ⟨fun hk => ReadEffect.adc.exec_eq hk h, fun hk => ReadEffect.sbc.exec_eq hk h⟩

/-- Settles O36: each is the read class with the load of its result. -/
theorem logicInstructions : Obligations.LogicInstructions := by
  intro i s s1 m extra h
  have bus := readFrame_of_operandReads h
  rw [← bus.cpuKept.a, ← bus.cpuKept.flags, ← bus.nextPc_eq]
  exact ⟨fun hk => ReadEffect.and.exec_eq hk h, fun hk => ReadEffect.ora.exec_eq hk h,
    fun hk => ReadEffect.eor.exec_eq hk h⟩

/-- Compare by numbers: Z is equality, N the sign bit of the difference modulo 256 (R107). -/
theorem compareFlags_eq (r m : Byte) (f : Flags) :
    compareFlags r m f = { f with
      c := decide (m.toNat ≤ r.toNat)
      z := decide (r.toNat = m.toNat)
      n := decide (128 ≤ (r.toNat + 256 - m.toNat) % 256) } := by
  have equal : decide (r = m) = decide (r.toNat = m.toNat) := by rw [decide_eq_decide, BitVec.toNat_inj]
  have negative : (r - m).getLsbD 7 = decide (128 ≤ (r.toNat + 256 - m.toNat) % 256) := by
    have := m.isLt
    rw [← BitVec.msb_eq_getLsbD_last, BitVec.msb_eq_decide, BitVec.toNat_sub, decide_eq_decide]
    omega
  rw [compareFlags, equal, negative]

/-- Settles O37: each is the read class with flags as its whole effect. -/
theorem compareAndBitInstructions : Obligations.CompareAndBitInstructions := by
  intro i s s1 m r extra h
  have bus := readFrame_of_operandReads h
  rw [← compareFlags_eq, ← bus.cpuKept.a, ← bus.cpuKept.x, ← bus.cpuKept.y, ← bus.cpuKept.flags, ← bus.nextPc_eq]
  refine ⟨?_, fun hk => ReadEffect.bit.exec_eq hk h⟩
  rintro (⟨hk, rfl⟩ | ⟨hk, rfl⟩ | ⟨hk, rfl⟩)
  · exact ReadEffect.cmp.exec_eq hk h
  · exact ReadEffect.cpx.exec_eq hk h
  · exact ReadEffect.cpy.exec_eq hk h

/-! ### INC and DEC -/

/-- INC or DEC with its operand in memory is a `countMem` whose effect gives the spec's value (R111, R112). -/
theorem MemoryClass.exec_of_count {i : Instr} {md : Address} {k : Mnemonic} {m r : Byte}
    (form : MemoryClass i md k)
    (hr : k = .inc ∧ r = BitVec.ofNat 8 ((m.toNat + 1) % 256) ∨ k = .dec ∧ r = BitVec.ofNat 8 ((m.toNat + 255) % 256)) :
    ∃ f, f m = r ∧ ∀ s, exec i s = countMem md i.row.cycles f s := by
  rw [← add_one_eq_ofNat, ← sub_one_eq_ofNat] at hr
  cases form with
  | count f effect run => exact ⟨f, by cases effect <;> simpa [eq_comm] using hr, run⟩
  | read _ other | write _ other | shift _ other => cases other <;> simp at hr

/-- Settles O39: each is a read of EA, a write of the counted byte, then Z and N from it. -/
theorem incrementAndDecrementMemory : Obligations.IncrementAndDecrementMemory := by
  intro i s s1 s2 md ea m r hop hea hread hr hwrite
  have notJump : i.row.mnemonic ∉ [Mnemonic.jmp, .jsr] := by
    obtain ⟨hk, -⟩ | ⟨hk, -⟩ := hr <;> rw [hk] <;> decide
  obtain ⟨f, counted, run⟩ := (exec_memoryClass hop hea notJump).exec_of_count hr
  have kept : CpuKept s s2 := (memRead_frame hread).cpuKept.trans (memWrite_frame hwrite).cpuKept
  have pc : s2.pc = s.pc := (memWrite_frame hwrite).pc.trans (memRead_frame hread).pc
  calc exec i s
    _ = .next (((s2.setFlags (zn s2.flags r)).advance md.length).setCycles i.row.cycles) := by
      simp only [run, countMem, resolve_eq_of_dataAddress hea, hread, counted, hwrite, Res.bind_ok, finish_ok]
      rfl
    _ = .next { s2 with flags := zn s.flags r, pc := nextPc i s, cycles := i.row.cycles } := by
      rw [nextPc, Instr.length, hop, ← pc, ← kept.flags]; rfl

/-! ### The decimal flag takes no part -/

/-- A bus operation's result with the states changed by `g`. -/
def Res.mapState {α : Type} (g : State → State) : Res α → Res α
  | .ok v s => .ok v (g s)
  | .unmapped a s => .unmapped a (g s)

/-- Changing the states commutes with going on, where it commutes with what goes on. -/
theorem Res.mapState_bind {α β : Type} {g : State → State} {f : α → State → Res β}
    (hf : ∀ v s, f v (g s) = (f v s).mapState g) (r : Res α) : (r.mapState g).bind f = (r.bind f).mapState g := by
  cases r with
  | ok v s => exact hf v s
  | unmapped a s => rfl

/-- A controller port does not look at D. -/
theorem controllerRead_withDecimal (b : Bool) (p : Port) (s : State) :
    controllerRead p (withDecimal b s) = ((controllerRead p s).1, withDecimal b (controllerRead p s).2) := by
  have strobe : (withDecimal b s).strobe = s.strobe := rfl
  have pad : (withDecimal b s).pad p = s.pad p := by cases p <;> rfl
  simp only [controllerRead, strobe, pad]
  split
  · cases p <;> rfl
  · split
    · cases p <;> rfl
    · rfl

/-- The router does not look at D (R35, R99). -/
theorem memRead_withDecimal (b : Bool) (a : Word) (s : State) :
    memRead a (withDecimal b s) = (memRead a s).mapState (withDecimal b) := by
  cases hroute : route a with
  | ram k => rw [memRead_ram hroute, memRead_ram hroute]; rfl
  | io k => simp only [memRead, hroute]; rfl
  | unmapped => rw [memRead_gap hroute, memRead_gap hroute]; rfl
  | vreg r => simp only [memRead, hroute]; cases r <;> rfl
  | pad p => simp only [memRead, hroute, controllerRead_withDecimal]; rfl
  | cart =>
    have hcart : (withDecimal b s).cart = s.cart := rfl
    cases hread : s.cart.read a with
    | none => rw [memRead_cart_none hroute hread, memRead_cart_none hroute (hcart ▸ hread)]; rfl
    | some r => rw [memRead_cart_some hroute hread, memRead_cart_some hroute (hcart ▸ hread)]; rfl

/-- A 16-bit read does not look at D. -/
theorem memRead16_withDecimal (b : Bool) (l h : Word) (s : State) :
    memRead16 l h (withDecimal b s) = (memRead16 l h s).mapState (withDecimal b) := by
  unfold memRead16
  rw [memRead_withDecimal, Res.mapState_bind]
  intro v t
  rw [memRead_withDecimal, Res.mapState_bind]
  exact fun _ _ => rfl

/-- No address mode looks at D (R64). -/
theorem resolve_withDecimal (b : Bool) (m : Address) (s : State) :
    resolve m (withDecimal b s) = (resolve m s).mapState (withDecimal b) := by
  cases m with
  | izx p => rw [resolve_izx, resolve_izx]; rfl
  | izy p => rw [resolve_izy, resolve_izy]; rfl
  | ind w =>
    simp only [resolve]
    rw [memRead16_withDecimal, Res.mapState_bind]
    exact fun _ _ => rfl
  | _ => rfl

/-- AddCore's effect on A and the flags keeps D as it is and does not look at it (R99). -/
theorem addA_withDecimal (b : Bool) (m : Byte) (s : State) :
    addA m (withDecimal b s) = withDecimal b (addA m s) := rfl

/-- A change of the state that the cycle count does not see carries over to the end of a step. -/
theorem mapNext_finish_mapState (g : State → State) (hg : ∀ c s, (g s).setCycles c = g (s.setCycles c)) (r : Res Nat) :
    mapNext id (finish (r.mapState g)) = mapNext g (finish r) := by
  cases r with
  | ok c s => exact congrArg some (hg c s)
  | unmapped a s => rfl

/-- A read of memory with an effect that does not look at D does not look at it either (R79). -/
theorem readMem_withDecimal {f : Byte → State → State} {b : Bool}
    (hf : ∀ v s, f v (withDecimal b s) = withDecimal b (f v s)) (m : Address) (c : Nat) (s : State) :
    mapNext id (readMem m c f (withDecimal b s)) = mapNext (withDecimal b) (readMem m c f s) := by
  unfold readMem
  rw [resolve_withDecimal, Res.mapState_bind, mapNext_finish_mapState (withDecimal b) fun _ _ => rfl]
  intro r t
  rw [memRead_withDecimal, Res.mapState_bind]
  intro v u
  rw [hf]
  rfl

/-- The effects of ADC and SBC do not look at D (R99). -/
theorem ReadEffect.ignores_decimal {k : Mnemonic} {f : Byte → State → State} (effect : ReadEffect k f)
    (hk : k = .adc ∨ k = .sbc) (b : Bool) (v : Byte) (s : State) :
    f v (withDecimal b s) = withDecimal b (f v s) := by
  cases effect with
  | adc => exact addA_withDecimal b v s
  | sbc => exact addA_withDecimal b (~~~v) s
  | _ => simp at hk

/-- An instruction that is ADC or SBC is of the read class. -/
theorem exec_addOrSubtract {i : Instr} (hk : i.row.mnemonic = .adc ∨ i.row.mnemonic = .sbc) :
    ∃ f, ReadEffect i.row.mnemonic f ∧
      ((∃ v, ∀ s, exec i s = readImm v f s) ∨ ∃ m, ∀ s, exec i s = readMem m i.row.cycles f s) := by
  cases exec_form i with
  | readImm v f effect operand count run => exact ⟨f, effect, .inl ⟨v, run⟩⟩
  | readMem m f effect operand data low high run => exact ⟨f, effect, .inr ⟨m, run⟩⟩
  | jmpAbs w is | jmpInd w is | jsr w is | rts is | brk is | rti is => subst is; simp [Instr.row] at hk
  | jam mnemonic => rw [mnemonic] at hk; simp at hk
  | writeMem _ _ other | shiftMem _ _ other | countMem _ _ other | shiftAcc _ other | implied _ other | branch _ _ other
  | push _ other | pull _ other =>
    generalize i.row.mnemonic = k at hk other
    cases other <;> simp at hk

/-- Settles O56: neither resolving, nor the read, nor AddCore looks at D, and each leaves it as it is. -/
theorem decimalFlagHasNoEffectOnArithmetic : Obligations.DecimalFlagHasNoEffectOnArithmetic := by
  intro i s b hk
  obtain ⟨f, effect, ⟨v, run⟩ | ⟨m, run⟩⟩ := exec_addOrSubtract hk
  · rw [run, run, readImm, readImm, effect.ignores_decimal hk]
    rfl
  · rw [run, run]
    exact readMem_withDecimal (effect.ignores_decimal hk b) m _ s

end Sys2Proof.Machine
end

section
/-! PROOFS. Shifts and rotates: the memory forms with a served read and write, and the forms on A. -/

namespace Sys2Proof.Machine

open Sys2Proof.Claims

/-- A shift or rotate with its operand in memory is a `shiftMem` of its effect (R117). -/
theorem MemoryClass.exec_of_shift {i : Instr} {md : Address} {k : Mnemonic} (form : MemoryClass i md k)
    (hk : k ∈ [Mnemonic.asl, .lsr, .rol, .ror]) :
    ∃ f, ShiftEffect k f ∧ ∀ s, exec i s = shiftMem md i.row.cycles f s := by
  cases form with
  | shift f effect run => exact ⟨f, effect, run⟩
  | read _ other | write _ other | count _ other => cases other <;> simp at hk

/-- Only the shifts and rotates have a form on A (R66, R117). -/
theorem exec_accumulator {i : Instr} (hop : i.row.operand = .acc) :
    ∃ f, ShiftEffect i.row.mnemonic f ∧ ∀ s, exec i s = shiftAcc f s := by
  cases exec_form i with
  | shiftAcc f effect operand run => exact ⟨f, effect, run⟩
  | jmpAbs w is | jmpInd w is | jsr w is | rts is | brk is | rti is => subst is; cases hop
  | readImm _ _ _ operand | readMem _ _ _ operand | writeMem _ _ _ operand | shiftMem _ _ _ operand
  | countMem _ _ _ operand | implied _ _ operand | branch _ _ _ operand | push _ _ operand | pull _ _ operand
  | jam _ operand => cases operand.symm.trans hop

/-- A memory form whose read and write are served completes: one read of EA, the flags, one write of EA, PC past the
instruction, the base cycles (R117). -/
theorem exec_shiftMem {i : Instr} {s s1 s2 : State} {md : Address} {ea : Word} {m : Byte}
    (hop : i.row.operand = .mem md) (hea : dataAddress md s = some ea) (hread : memRead ea s = .ok m s1)
    (hk : i.row.mnemonic ∈ [Mnemonic.asl, .lsr, .rol, .ror])
    (hwrite : memWrite ea (shiftResult i.row.mnemonic m s.flags.c)
      (s1.setFlags (afterShift i.row.mnemonic m s.flags)) = .ok () s2) :
    exec i s = .next { s2 with pc := nextPc i s, cycles := i.row.cycles } := by
  have notJump : ∀ k ∈ [Mnemonic.asl, .lsr, .rol, .ror], k ∉ [Mnemonic.jmp, .jsr] := by decide
  obtain ⟨f, effect, run⟩ := (exec_memoryClass hop hea (notJump _ hk)).exec_of_shift hk
  have flags : s1.flags = s.flags := (memRead_frame hread).cpuKept.flags
  have pc : s2.pc = s.pc := (memWrite_frame hwrite).pc.trans (memRead_frame hread).pc
  calc exec i s
    _ = .next ((s2.advance md.length).setCycles i.row.cycles) := by
      simp only [run, shiftMem, resolve_eq_of_dataAddress hea, hread, flags, effect.eq_spec, hwrite, Res.bind_ok,
        finish_ok]
    _ = .next { s2 with pc := nextPc i s, cycles := i.row.cycles } := by
      rw [nextPc, Instr.length, hop, ← pc]; rfl

/-- A form on A makes no bus access: A and the flags, PC past the instruction, two cycles (R66, R117). -/
theorem exec_shiftAcc {i : Instr} (hop : i.row.operand = .acc) (s : State) :
    exec i s = .next { s with
      a := shiftResult i.row.mnemonic s.a s.flags.c
      flags := afterShift i.row.mnemonic s.a s.flags
      pc := s.pc + 1, cycles := 2 } := by
  obtain ⟨f, effect, run⟩ := exec_accumulator hop
  rw [run, shiftAcc, implied_eq, effect.eq_spec]
  rfl

/-- Settles O40: a memory form is `shiftMem` and a form on A `shiftAcc`, each of the spec's result and flags. -/
theorem shiftInstructions : Obligations.ShiftInstructions := fun _ s _ _ _ _ _ =>
  ⟨exec_shiftMem, fun hop => exec_shiftAcc hop s⟩

end Sys2Proof.Machine
end

section
/-! PROOFS. Control transfer: jumps, subroutines, BRK and RTI, that a return undoes its entry, and the branches. -/

namespace Sys2Proof.Machine

open Sys2Proof.Claims

/-! ### The stack bytes an entry leaves for its return -/

/-- A write of one stack byte leaves the others: page 1 holds each value of S once (R45). -/
theorem read_stackWrite_other (m : Memory) {p q : Byte} (v : Byte) (h : p ≠ q) :
    (m.write (0x100 + q.toNat) v).read (0x100 + p.toNat) = m.read (0x100 + p.toNat) :=
  m.read_write_other v fun e => h (BitVec.eq_of_toNat_eq (Nat.add_left_cancel e))

/-- The two bytes of a 16-bit push, the high one on top (R94). -/
theorem read_pushed16 (m : Memory) (p h l : Byte) :
    ((m.write (0x100 + p.toNat) h).write (0x100 + (p - 1).toNat) l).read (0x100 + p.toNat) = h ∧
    ((m.write (0x100 + p.toNat) h).write (0x100 + (p - 1).toNat) l).read (0x100 + (p - 1).toNat) = l := by
  have apart : p ≠ p - 1 := by bv_omega
  exact ⟨by rw [read_stackWrite_other _ l apart, Memory.read_write_same], Memory.read_write_same _ _ _⟩

/-- The three bytes an interrupt entry pushes (R127, R150). -/
theorem read_entered (ret : Word) (b : Bool) (s : State) :
    (entered ret b s).mem.read (0x100 + s.sp.toNat) = hi ret ∧
    (entered ret b s).mem.read (0x100 + (s.sp - 1).toNat) = lo ret ∧
    (entered ret b s).mem.read (0x100 + (s.sp - 2).toNat) = s.flags.image b := by
  have apart0 : s.sp ≠ s.sp - 2 := by bv_omega
  have apart1 : s.sp - 1 ≠ s.sp - 2 := by bv_omega
  obtain ⟨high, low⟩ := read_pushed16 s.mem s.sp (hi ret) (lo ret)
  exact ⟨(read_stackWrite_other _ _ apart0).trans high, (read_stackWrite_other _ _ apart1).trans low,
    Memory.read_write_same _ _ _⟩

/-! ### A return undoes its entry -/

/-- RTI, with the stack as an interrupt entry from `s` left it, restores S and the flags and goes to the address the entry
pushed (R127, R128, R150). -/
theorem execRti_of_entered {ret : Word} {b : Bool} {s t : State} (hmem : t.mem = (entered ret b s).mem)
    (hsp : t.sp = s.sp - 3) :
    execRti t = .next { t with flags := s.flags, sp := s.sp, pc := ret, cycles := 6 } := by
  obtain ⟨high, low, image⟩ := read_entered ret b s
  have s1 : t.sp + 1 = s.sp - 2 := by bv_omega
  have s2 : t.sp + 2 = s.sp - 1 := by bv_omega
  have s3 : t.sp + 3 = s.sp := by bv_omega
  rw [execRti_eq, s1, s2, s3, hmem, high, low, image, ofByte_image, Laws.join_hi_lo]

/-- RTS, with the stack as a push of `ret` from `s` left it, restores S and goes past `ret` (R94, R125). -/
theorem execRts_of_pushed16 {ret : Word} {s t : State}
    (hmem : t.mem = (s.mem.write (0x100 + s.sp.toNat) (hi ret)).write (0x100 + (s.sp - 1).toNat) (lo ret))
    (hsp : t.sp = s.sp - 2) : execRts t = .next { t with sp := s.sp, pc := ret + 1, cycles := 6 } := by
  obtain ⟨high, low⟩ := read_pushed16 s.mem s.sp (hi ret) (lo ret)
  have s1 : t.sp + 1 = s.sp - 1 := by bv_omega
  have s2 : t.sp + 2 = s.sp := by bv_omega
  rw [execRts_eq, s1, s2, hmem, high, low, Laws.join_hi_lo]

/-- Settles O48: each entry leaves its pushes on the stack and S below them, from where the return takes them back. -/
theorem returnsUndoEntries : Obligations.ReturnsUndoEntries := by
  intro s t w
  refine ⟨fun h => ?nmi, fun h => ?brk, fun h => ?jsr⟩
  case nmi =>
    obtain ⟨u, bus, out⟩ := nmiSeq_next h
    have cpu := bus.cpuKept
    have back : execRti t = _ := execRti_of_entered (s := { s with nmiPending := false }) (by rw [out]; exact bus.mem)
      (by rw [out]; exact cpu.sp)
    exact ⟨_, back, rfl, rfl, rfl, by rw [out]; exact cpu.a, by rw [out]; exact cpu.x, by rw [out]; exact cpu.y⟩
  case brk =>
    obtain ⟨out, -⟩ := execBrk_next h
    exact ⟨_, execRti_of_entered (s := s) (by rw [out]) (by rw [out]; rfl), rfl, rfl, rfl⟩
  case jsr =>
    cases (execJsr_eq w s).symm.trans h
    exact ⟨_, execRts_of_pushed16 rfl rfl, by bv_omega, rfl⟩

/-! ### The conditional branches -/

/-- Only the branches have a relative operand (R77, R129). -/
theorem exec_relative {i : Instr} {d : Int} (hop : i.row.operand = .mem (.rel d)) :
    ∃ f, BranchCondition i.row.mnemonic f ∧ ∀ s, exec i s = branch (f s.flags) d s := by
  cases exec_form i with
  | branch e f effect operand run => cases operand.symm.trans hop; exact ⟨f, effect, run⟩
  | readMem m _ _ operand data | writeMem m _ _ operand data | shiftMem m _ _ operand data
  | countMem m _ _ operand data => cases operand.symm.trans hop; exact data.elim
  | jmpAbs w is | jmpInd w is | jsr w is | rts is | brk is | rti is => subst is; cases hop
  | readImm _ _ _ operand | shiftAcc _ _ operand | implied _ _ operand | push _ _ operand | pull _ _ operand
  | jam _ operand => cases operand.symm.trans hop

/-- The condition of each branch is the one R130 to R137 give it. -/
theorem BranchCondition.branchTaken_eq {k : Mnemonic} {f : Flags → Bool} (h : BranchCondition k f) (g : Flags) :
    branchTaken k g = some (f g) := by
  cases h <;> rfl

/-- A taken branch counts 3 cycles within the page of the next instruction, and 4 to another (R129). -/
theorem three_add_pageCross_eq (target next : Word) :
    (3 + if hi target ≠ hi next then 1 else 0) = if hi target = hi next then 3 else 4 := by
  by_cases h : hi target = hi next <;> simp [h]

/-- Settles O49: each is the shared branch under its own condition. -/
theorem branchInstructions : Obligations.BranchInstructions := by
  intro i s d taken hop htaken
  obtain ⟨f, effect, run⟩ := exec_relative hop
  have condition : f s.flags = taken := Option.some.inj ((effect.branchTaken_eq s.flags).symm.trans htaken)
  rw [run, condition, branch_eq, three_add_pageCross_eq]

/-! ### The jumps -/

/-- Counting a byte up and counting up an address that ends in it agree in the low byte. -/
theorem lo_add_one (w : Word) : lo w + 1 = lo (w + 1) := by
  have before := toNat_lo w
  have after := toNat_lo (w + 1)
  bv_omega

/-- The pointer's second address keeps the page: the low byte alone is counted up (R76, R123). -/
theorem join_hi_lo_add_one (w : Word) : join (hi w) (lo w + 1) = (w &&& 0xFF00) ||| ((w + 1) &&& 0x00FF) := by
  rw [lo_add_one]
  refine BitVec.eq_of_getLsbD_eq fun k hk => ?_
  simp only [join, hi, lo, BitVec.getLsbD_append, BitVec.getLsbD_extractLsb', BitVec.getLsbD_or, BitVec.getLsbD_and]
  interval_cases k <;> simp

/-- JMP indirect is the read of its pointer, then PC (R76, R123). -/
theorem exec_jmpInd (w : Word) (s : State) :
    exec (.jmpInd w) s = finish ((memRead16 w ((w &&& 0xFF00) ||| ((w + 1) &&& 0x00FF)) s).bind fun target s1 =>
      .ok 5 (s1.setPc target)) := by
  rw [← join_hi_lo_add_one]
  show jump (.ind w) 5 s = _
  rw [jump, resolve]
  cases memRead16 w (join (hi w) (lo w + 1)) s <;> rfl

/-- Settles O45: JMP absolute reads nothing; JMP indirect reads the two bytes of its pointer and stops at the first that is
not served. -/
theorem jumpInstructions : Obligations.JumpInstructions := by
  intro w s s1 s2 l h
  refine ⟨rfl, fun first second => ?served, fun unserved => ?first_unserved, fun first unserved => ?second_unserved⟩
  case served => simp only [exec_jmpInd, memRead16, first, second, Res.bind_ok]; rfl
  case first_unserved => simp only [exec_jmpInd, memRead16, memRead_of_unserved unserved]; rfl
  case second_unserved => simp only [exec_jmpInd, memRead16, first, memRead_of_unserved unserved, Res.bind_ok]; rfl

/-! ### Subroutines, BRK and RTI -/

/-- Settles O46: the push and the pull of 16 bits are served by page 1. -/
theorem subroutineInstructions : Obligations.SubroutineInstructions := fun w s => ⟨execJsr_eq w s, execRts_eq s⟩

/-- BRK, with a vector the cartridge answers (R44, R127). -/
theorem execBrk_cart {s : State} {l h : Byte} {c d : Cart} (first : s.cart.read 0xFFFE = some (l, c))
    (second : c.read 0xFFFF = some (h, d)) :
    execBrk s = .next { entered (s.pc + 2) true s with pc := join h l, cycles := 7, cart := d } := by
  rw [execBrk, enterInterrupt_cart (w := 0xFFFF) (by decide) (by decide) (by decide) first second]
  rfl

/-- Settles O47: BRK is the interrupt entry with its vector answered; RTI is the shared return, served by page 1. -/
theorem breakAndReturnFromInterrupt : Obligations.BreakAndReturnFromInterrupt := fun s _ _ _ _ =>
  ⟨execBrk_cart, execRti_eq s⟩

end Sys2Proof.Machine
end

section
/-! PROOFS. The flag instructions and NOP. -/

namespace Sys2Proof.Machine

/-- A one-byte instruction that only changes the flags leaves all else but PC and the cycle count as it was (R65). -/
theorem implied_setFlags_eq (g : Flags → Flags) (s : State) :
    implied (fun s => s.setFlags (g s.flags)) s = .next { s with flags := g s.flags, pc := s.pc + 1, cycles := 2 } :=
  implied_eq _ s

/-- Settles O42: each flag instruction is a one-byte instruction that sets one flag, and NOP one with no effect. -/
theorem flagInstructionsAndNop : Obligations.FlagInstructionsAndNop := fun s =>
  ⟨implied_setFlags_eq ({ · with c := false }) s, implied_setFlags_eq ({ · with c := true }) s,
    implied_setFlags_eq ({ · with i := false }) s, implied_setFlags_eq ({ · with i := true }) s,
    implied_setFlags_eq ({ · with d := false }) s, implied_setFlags_eq ({ · with d := true }) s,
    implied_setFlags_eq ({ · with v := false }) s, implied_eq id s⟩

end Sys2Proof.Machine
end

section
/-! PROOFS. The control states, the reset and NMI sequences, and what the orchestrator adds around a CPU step. -/

namespace Sys2Proof.Machine

open Sys2Proof.Claims

/-! ### The control states -/

/-- In RUN a step is the CPU step after the host's inputs, then the video ticks it owes (R148, R178). -/
theorem step_running {s : State} (h : s.running) : step s = afterCpuStep (cpuStep (acceptHost s)) := by
  obtain ⟨running, noFault⟩ := h
  simp only [step, orchestrate, noFault, running, Bool.false_eq_true, if_false]

theorem step_halted {s : State} (noFault : s.fault = none) (halted : s.halted = true) :
    step s = .fault .alreadyHalted := by
  simp only [step, orchestrate, noFault, halted, if_true]

theorem step_faulted {s : State} {r : FaultRecord} (h : s.fault = some r) : step s = .fault (.alreadyFaulted r) := by
  simp only [step, orchestrate, h]

theorem cpuStep_reset {s : State} (h : s.resetPending = true) : cpuStep s = resetSeq s := if_pos h

theorem cpuStep_nmi {s : State} (noReset : s.resetPending = false) (h : s.nmiPending = true) :
    cpuStep s = nmiSeq s := by
  rw [cpuStep, if_neg (Bool.eq_false_iff.mp noReset), if_pos h]

theorem cpuStep_instruction {s : State} (noReset : s.resetPending = false) (noNmi : s.nmiPending = false) :
    cpuStep s = execStep s := by
  rw [cpuStep, if_neg (Bool.eq_false_iff.mp noReset), if_neg (Bool.eq_false_iff.mp noNmi)]

/-- Settles O6: the branches of the orchestrator's turn and of the CPU step, one by one. -/
theorem controlStatesAndPriority : Obligations.ControlStatesAndPriority := fun _ =>
  ⟨step_halted, fun _ => step_faulted, step_running, cpuStep_reset, cpuStep_nmi, cpuStep_instruction⟩

/-! ### The video ticks after a CPU step -/

theorem afterCpuStep_running {t : State} (h : t.halted = false) :
    afterCpuStep (.next t) = .next (runVideo (3 * t.cycles) t) := if_neg (Bool.eq_false_iff.mp h)

theorem afterCpuStep_halted {t : State} (h : t.halted = true) : afterCpuStep (.next t) = .next t := if_pos h

/-- Settles O10: the orchestrator's treatment of each outcome of the CPU step. -/
theorem orchestratorTicksThreePerCycle : Obligations.OrchestratorTicksThreePerCycle := by
  intro s hrun
  refine ⟨fun t hcpu => ⟨fun running => ?_, fun halted => ?_⟩, fun f hcpu => ?_⟩
  · rw [step_running hrun, hcpu, afterCpuStep_running running]; rfl
  · rw [step_running hrun, hcpu, afterCpuStep_halted halted]
  · rw [step_running hrun, hcpu]; rfl

/-! ### The reset sequence -/

/-- A 16-bit read stops at its first byte when the cartridge does not answer it (R44). -/
theorem memRead16_cart_first_none {a b : Word} {s : State} (ra : route a = .cart) (first : s.cart.read a = none) :
    memRead16 a b s = .unmapped a s := by
  simp only [memRead16, memRead_cart_none ra first, Res.bind_unmapped]

theorem route_resetVector : route 0xFFFC = .cart ∧ route 0xFFFD = .cart := by decide

/-- The state in which the reset sequence reads its vector: the latch cleared, S down by 3 (R149). -/
def resetEntered (s : State) : State := { s with resetPending := false, sp := s.sp - 3 }

theorem resetSeq_eq (s : State) :
    resetSeq s = finish ((memRead16 0xFFFC 0xFFFD (resetEntered s)).bind fun target s1 =>
      .ok 7 ((s1.setPc target).setFlags { s1.flags with i := true })) := rfl

/-- The reset sequence with a vector the cartridge answers (R149). -/
theorem resetSeq_cart {s : State} {l h : Byte} {c d : Cart} (first : s.cart.read 0xFFFC = some (l, c))
    (second : c.read 0xFFFD = some (h, d)) :
    resetSeq s = .next { resetEntered s with
      pc := join h l, flags := { s.flags with i := true }, cycles := 7, cart := d } := by
  obtain ⟨r1, r2⟩ := route_resetVector
  rw [resetSeq_eq, memRead16_cart (s := resetEntered s) r1 r2 first second]; rfl

/-- Settles O7: the vector read after the latch and S, served, stopped at its first byte, or at its second. -/
theorem resetSequence : Obligations.ResetSequence := by
  intro s l h c d
  obtain ⟨r1, r2⟩ := route_resetVector
  refine ⟨resetSeq_cart, fun unanswered => ?first, fun first unanswered => ?second⟩
  case first => rw [resetSeq_eq, memRead16_cart_first_none (s := resetEntered s) r1 unanswered]; rfl
  case second => rw [resetSeq_eq, memRead16_cart_none (s := resetEntered s) r1 r2 first unanswered]; rfl

/-- Settles O9: an asserted reset makes the step the reset sequence, which keeps a pending NMI for the next. -/
theorem hostResetIsTakenAtTheNextStep : Obligations.HostResetIsTakenAtTheNextStep := by
  intro s l h c d hrun asserted first second t
  obtain ⟨running, noFault⟩ := hrun
  refine ⟨?reset, fun pending released => ?nmi⟩
  case reset =>
    have latched : (acceptHost s).resetPending = true := by rw [acceptHost_resetPending, asserted, Bool.or_true]
    rw [← acceptHost_cart s] at first
    rw [step_running ⟨running, noFault⟩, cpuStep_reset latched, resetSeq_cart first second]
    simp only [resetEntered, acceptHost_sp, acceptHost_flags]
    exact afterCpuStep_running ((acceptHost_halted s).trans running)
  case nmi =>
    have next : t.running := ⟨(acceptHost_halted s).trans running, (acceptHost_fault s).trans noFault⟩
    have noReset : (acceptHost t).resetPending = false := by rw [acceptHost_resetPending, released]; rfl
    have kept : (acceptHost s).nmiPending = true := (acceptHost_nmiPending s).trans pending
    have stillPending : (acceptHost t).nmiPending = true := by
      rw [acceptHost_nmiPending]
      exact Bool.or_eq_true_iff.mpr (.inl kept)
    rw [step_running next, cpuStep_nmi noReset stillPending]

/-! ### The NMI sequence, and an interrupt vector that is not answered -/

theorem route_nmiVector : route 0xFFFA = .cart ∧ route 0xFFFB = .cart := by decide

theorem route_irqVector : route 0xFFFE = .cart ∧ route 0xFFFF = .cart := by decide

theorem nmiSeq_eq (s : State) :
    nmiSeq s = finish ((enterInterrupt s.pc false 0xFFFA { s with nmiPending := false }).bind fun _ s1 => .ok 7 s1) :=
  rfl

/-- Settles O8: the shared interrupt entry, with its vector answered. -/
theorem nmiSequence : Obligations.NmiSequence := by
  intro s l h c d first second
  obtain ⟨r1, r2⟩ := route_nmiVector
  rw [nmiSeq_eq, enterInterrupt_cart (s := { s with nmiPending := false }) (by decide) r1 r2 first second]
  rfl

/-- BRK is the shared interrupt entry (R127). -/
theorem exec_brk_eq (s : State) :
    exec .brk s = finish ((enterInterrupt (s.pc + 2) true 0xFFFE s).bind fun _ s1 => .ok 7 s1) := rfl

/-- Settles O13: the shared interrupt entry, stopped at the first or the second byte of its vector. -/
theorem faultKeepsEarlierEffects : Obligations.FaultKeepsEarlierEffects := by
  intro s l c
  obtain ⟨brk1, brk2⟩ := route_irqVector
  obtain ⟨nmi1, nmi2⟩ := route_nmiVector
  refine ⟨fun unanswered => ?brk_first, fun first unanswered => ?brk_second, fun unanswered => ?nmi_first,
    fun first unanswered => ?nmi_second⟩
  case brk_first => rw [exec_brk_eq, enterInterrupt_none brk1 unanswered]; rfl
  case brk_second => rw [exec_brk_eq, enterInterrupt_half (by decide) brk1 brk2 first unanswered]; rfl
  case nmi_first =>
    rw [nmiSeq_eq, enterInterrupt_none (s := { s with nmiPending := false }) nmi1 unanswered]; rfl
  case nmi_second =>
    rw [nmiSeq_eq, enterInterrupt_half (s := { s with nmiPending := false }) (by decide) nmi1 nmi2 first unanswered]
    rfl

/-! ### The next instruction -/

/-- Bytes that decode to one instruction and are what the router answers from PC on are what the fetch gives
(R55, R151). -/
theorem fetchInstruction_of_fetchBytes {s s1 : State} {bs : List Byte} {i : Instr}
    (hfetch : fetchBytes bs.length s.pc s = .ok bs s1) (hdecode : decode bs = .ok (i, [])) :
    fetchInstruction s = .ok bs s1 := by
  cases bs with
  | nil => cases hdecode
  | cons op operands =>
    obtain ⟨-, taken, -, rfl, hcount⟩ := decode_inversion hdecode
    rw [List.append_nil] at hfetch
    simp only [List.length_cons, fetchBytes, Res.bind_eq_ok] at hfetch
    obtain ⟨b, t, hop, rest, u, hrest, hout⟩ := hfetch
    cases hout
    rw [fetchInstruction, hop, Res.bind_ok, ← hcount, hrest, Res.bind_ok, List.append_nil]

/-- Fetched bytes that decode to an instruction execute it (R151). -/
theorem execStep_of_fetch {s s1 : State} {bs rest : List Byte} {i : Instr} (hfetch : fetchInstruction s = .ok bs s1)
    (hdecode : decode bs = .ok (i, rest)) : execStep s = exec i s1 := by
  simp only [execStep, hfetch, hdecode]

/-- Settles O4: the fetch gives the bytes at PC, and the orchestrator adds the ticks to what their instruction does. -/
theorem stepRunsDecodedInstruction : Obligations.StepRunsDecodedInstruction := by
  intro s s1 bs i hf hfetch hdecode
  rw [← acceptHost_pc s] at hfetch
  rw [step_fetching hf, execStep_of_fetch (fetchInstruction_of_fetchBytes hfetch hdecode) hdecode]
  cases exec i s1 with
  | next t =>
    cases halted : t.halted with
    | true => simp only [afterCpuStep_halted halted, halted, if_true]
    | false => simp only [afterCpuStep_running halted, halted, Bool.false_eq_true, if_false]
  | fault f => rfl
  | refused r => rfl

end Sys2Proof.Machine
end

section
/-! PROOFS. The video counter: its position in the frame, when the vblank flag is set, and when the NMI is signalled. -/

namespace Sys2Proof.Machine

open Sys2Proof.Claims

/-! ### One tick -/

/-- The advance is one place on, and from the frame's last place to its first (R158, R159). -/
theorem position_advance {v : Video} (h : InFrame v) : position v.advance = (position v + 1) % 89342 := by
  obtain ⟨hline, hdot⟩ := h
  simp only [position, Video.advance]
  by_cases lastDot : v.dot + 1 = 341
  · by_cases lastLine : v.scanline + 1 = 262
    · simp only [lastDot, lastLine, if_true]; omega
    · simp only [lastDot, lastLine, if_true, if_false]; omega
  · have inside : v.scanline ≠ 262 := by omega
    simp only [lastDot, inside, if_false]; omega

theorem position_tick {v : Video} (h : InFrame v) : position v.tick.1 = (position v + 1) % 89342 :=
  position_advance h

theorem inFrame_tick {v : Video} (h : InFrame v) : InFrame v.tick.1 := Video.tick_range h.1 h.2

/-- In the frame, a line and a dot are one position. -/
theorem line_and_dot_eq_position {v : Video} (h : InFrame v) {line dot : Nat} (hdot : dot < 341) :
    (v.scanline == line && v.dot == dot) = decide (position v = line * 341 + dot) := by
  obtain ⟨-, hv⟩ := h
  rw [Bool.eq_iff_iff, Bool.and_eq_true, beq_iff_eq, beq_iff_eq, decide_eq_true_eq, position]
  omega

/-- A tick signals the NMI exactly on reaching the vblank instant with ctrl bit 7 set (R158, R160). -/
theorem tick_signals_iff {v : Video} (h : InFrame v) :
    v.tick.2 = true ↔ position v.tick.1 = 241 * 341 + 1 ∧ v.ctrl.getLsbD 7 = true := by
  have instant : v.advance.atVblank = decide (position v.tick.1 = 241 * 341 + 1) :=
    line_and_dot_eq_position (inFrame_tick h) (by decide)
  rw [← decide_eq_true_iff (p := position v.tick.1 = 241 * 341 + 1), ← instant, ← Bool.and_eq_true]
  rfl

/-- A tick sets the vblank flag at scanline 241, dot 1, and clears it at scanline 261, dot 1 (R158). -/
theorem tick_vblank {v : Video} (h : InFrame v) :
    v.tick.1.vblank =
      if position v.tick.1 = 241 * 341 + 1 then true
      else if position v.tick.1 = 261 * 341 + 1 then false else v.vblank := by
  have setHere : v.advance.atVblank = decide (position v.tick.1 = 241 * 341 + 1) :=
    line_and_dot_eq_position (inFrame_tick h) (by decide)
  have clearedHere : v.advance.atPreRender = decide (position v.tick.1 = 261 * 341 + 1) :=
    line_and_dot_eq_position (inFrame_tick h) (by decide)
  calc v.tick.1.vblank
    _ = if v.advance.atPreRender then false else if v.advance.atVblank then true else v.vblank := rfl
    _ = _ := by
      rw [setHere, clearedHere]
      by_cases atSet : position v.tick.1 = 241 * 341 + 1
      · simp [atSet]
      · simp [atSet]

/-- Settles O16: the advance by its position, the examination by the position reached. -/
theorem tickAdvancesThenExamines : Obligations.TickAdvancesThenExamines := fun v h =>
  ⟨position_tick h, inFrame_tick h, tick_signals_iff h, tick_vblank h, v.tick_frame⟩

/-! ### A run of ticks -/

/-- A run of ticks, taken from its last tick. -/
theorem ticks_succ (n : Nat) (v : Video) :
    v.ticks (n + 1) = ((v.ticks n).1.tick.1, (v.ticks n).2 || (v.ticks n).1.tick.2) := by
  rw [Video.ticks_add]
  simp only [Video.ticks, Bool.or_false]

theorem inFrame_ticks (n : Nat) {v : Video} (h : InFrame v) : InFrame (v.ticks n).1 := Video.ticks_range n h.1 h.2

/-- Each tick is one place on, modulo the frame (R159). -/
theorem position_ticks (n : Nat) {v : Video} (h : InFrame v) : position (v.ticks n).1 = (position v + n) % 89342 := by
  induction n with
  | zero =>
    obtain ⟨hline, hdot⟩ := h
    simp only [Video.ticks, position]
    omega
  | succ n ih => rw [ticks_succ, position_tick (inFrame_ticks n h), ih]; omega

/-- Settles O17, by induction on the ticks. -/
theorem ticksAdvanceTheCounter : Obligations.TicksAdvanceTheCounter := fun n _ h =>
  ⟨inFrame_ticks n h, position_ticks n h⟩

/-- Settles O18, by induction on the ticks: the flag changes at the two instants only, and before either it is clear. -/
theorem vblankWithinOneFrame : Obligations.VblankWithinOneFrame := by
  intro n v hline hdot hclear hn
  have h : InFrame v := ⟨by omega, by omega⟩
  induction n with
  | zero => simp [Video.ticks, hclear]
  | succ n ih =>
    have before := ih (by omega)
    have place : position (v.ticks n).1.tick.1 = n + 1 := by
      rw [position_tick (inFrame_ticks n h), position_ticks n h, position, hline, hdot]
      omega
    rw [ticks_succ, tick_vblank (inFrame_ticks n h), place]
    split
    · simp only [true_iff]; omega
    · split
      · simp only [Bool.false_eq_true, false_iff]; omega
      · exact before.trans (by omega)

/-- Ticks leave the control register. -/
theorem ctrl_ticks (n : Nat) (v : Video) : (v.ticks n).1.ctrl = v.ctrl := by rw [Video.ticks_frame]

/-- Settles O19, by induction on the ticks: the last one signals, or one before it has. -/
theorem nmiRaisedOnlyAtTheInstant : Obligations.NmiRaisedOnlyAtTheInstant := by
  intro n v h
  induction n with
  | zero => simp [Video.ticks]
  | succ n ih =>
    have last : position (v.ticks n).1.tick.1 = (position v + n + 1) % 89342 := by
      rw [position_tick (inFrame_ticks n h), position_ticks n h, Nat.mod_add_mod]
    rw [ticks_succ, Bool.or_eq_true, ih, tick_signals_iff (inFrame_ticks n h), ctrl_ticks, last,
      and_comm (b := v.ctrl.getLsbD 7 = true), Nat.exists_lt_succ_right, and_or_left]

end Sys2Proof.Machine
end

section
/-! PROOFS. The video registers, read and written by the CPU at every mirror. -/

namespace Sys2Proof.Machine

open Sys2Proof.Claims

/-! ### One access -/

/-- A CPU read of a video register, at every mirror (R161). -/
theorem memRead_videoReg {a : Word} {k : Nat} (low : 0x2000 ≤ a.toNat) (high : a.toNat ≤ 0x3FFF)
    (hk : a.toNat % 8 = k) (s : State) :
    memRead a s = .ok (videoRegRead (VReg.ofIndex k) s).1 (videoRegRead (VReg.ofIndex k) s).2 := by
  simp only [memRead, route_vreg low high, hk]

/-- A CPU write of a video register, at every mirror (R161). -/
theorem memWrite_videoReg {a : Word} {k : Nat} (low : 0x2000 ≤ a.toNat) (high : a.toNat ≤ 0x3FFF)
    (hk : a.toNat % 8 = k) (b : Byte) (s : State) :
    memWrite a b s = .ok () (videoRegWrite (VReg.ofIndex k) b s) := by
  simp only [memWrite, route_vreg low high, hk]

/-! ### Reads -/

/-- The write-only registers answer the open bus (R165). -/
theorem videoRegRead_writeOnly {k : Nat} (hk : k < 8) (notStatus : k ≠ 2) (notOam : k ≠ 4) (notData : k ≠ 7)
    (s : State) : videoRegRead (VReg.ofIndex k) s = (s.video.openBus, s) := by
  obtain rfl | rfl | rfl | rfl | rfl : k = 0 ∨ k = 1 ∨ k = 3 ∨ k = 5 ∨ k = 6 := by omega
  all_goals rfl

/-- Settles O20: neither register's read has a side effect. -/
theorem videoRegisterReads : Obligations.VideoRegisterReads := by
  intro s a low high
  refine ⟨fun hk => memRead_videoReg low high hk s, fun notStatus notOam notData => ?writeOnly⟩
  case writeOnly =>
    rw [memRead_videoReg low high rfl,
      videoRegRead_writeOnly (Nat.mod_lt _ (by decide)) notStatus notOam notData]

/-- The status byte's three fields, side by side and as shifted parts (R162). -/
theorem statusByte_eq (vblank : Bool) (sprites : BitVec 2) (bus : Byte) :
    (BitVec.ofBool vblank ++ sprites ++ bus.extractLsb' 0 5 : Byte) =
      (bitByte vblank <<< 7) ||| (sprites.setWidth 8 <<< 5) ||| (bus &&& 0x1F) := by
  refine BitVec.eq_of_getLsbD_eq fun k hk => ?_
  simp only [bitByte, BitVec.getLsbD_append, BitVec.getLsbD_extractLsb', BitVec.getLsbD_or, BitVec.getLsbD_shiftLeft,
    BitVec.getLsbD_setWidth, BitVec.getLsbD_and]
  cases vblank <;> interval_cases k <;> simp

/-- Settles O21: each is its register's one access; the status byte is rebuilt from its fields. -/
theorem statusAndDataRegisters : Obligations.StatusAndDataRegisters := by
  intro s a b low high
  refine ⟨fun hk => ?status, fun hk => memRead_videoReg low high hk s, fun hk => memWrite_videoReg low high hk b s⟩
  case status => rw [← statusByte_eq]; exact memRead_videoReg low high hk s

/-! ### Writes -/

/-- The first write of a scroll pair (R172). -/
theorem videoRegWrite_scroll_first {s : State} (h : s.video.w = false) (b : Byte) :
    videoRegWrite .scroll b s = { s with video := { s.video with openBus := b, scrollX := b, w := true } } := by
  simp only [videoRegWrite, Video.regWrite, h, Bool.false_eq_true, if_false]

/-- The second write of a scroll pair (R172). -/
theorem videoRegWrite_scroll_second {s : State} (h : s.video.w = true) (b : Byte) :
    videoRegWrite .scroll b s = { s with video := { s.video with openBus := b, scrollY := b, w := false } } := by
  simp only [videoRegWrite, Video.regWrite, h, if_true]

/-- The first write of an address pair keeps the six bits that fit (R173). -/
theorem videoRegWrite_addr_first {s : State} (h : s.video.w = false) (b : Byte) :
    videoRegWrite .addr b s =
      { s with video := { s.video with openBus := b, vaddrHi := BitVec.ofNat 6 (b.toNat % 64), w := true } } := by
  have six : b.extractLsb' 0 6 = BitVec.ofNat 6 (b.toNat % 64) := BitVec.eq_of_toNat_eq (by simp)
  simp only [videoRegWrite, Video.regWrite, h, Bool.false_eq_true, if_false, six]

/-- The second write of an address pair joins the two bytes (R173). -/
theorem videoRegWrite_addr_second {s : State} (h : s.video.w = true) (b : Byte) :
    videoRegWrite .addr b s =
      { s with video := { s.video with
        openBus := b, vaddr := BitVec.ofNat 14 (s.video.vaddrHi.toNat * 256 + b.toNat), w := false } } := by
  have joined : s.video.vaddrHi ++ b = BitVec.ofNat 14 (s.video.vaddrHi.toNat * 256 + b.toNat) := by
    apply BitVec.eq_of_toNat_eq
    have := b.isLt
    have := s.video.vaddrHi.isLt
    rw [BitVec.toNat_append, ← Nat.shiftLeft_add_eq_or_of_lt b.isLt, Nat.shiftLeft_eq, BitVec.toNat_ofNat,
      Nat.mod_eq_of_lt (by omega)]
  simp only [videoRegWrite, Video.regWrite, h, if_true, joined]

/-- Settles O22: each is its register's one access; the two shared-toggle registers split on the toggle. -/
theorem videoRegisterWrites : Obligations.VideoRegisterWrites := by
  intro s a b low high
  have written {k : Nat} (hk : a.toNat % 8 = k) : memWrite a b s = .ok () (videoRegWrite (VReg.ofIndex k) b s) :=
    memWrite_videoReg low high hk b s
  exact ⟨written, written, written, written, written,
    fun hk hw => (written hk).trans (congrArg _ (videoRegWrite_scroll_first hw b)),
    fun hk hw => (written hk).trans (congrArg _ (videoRegWrite_scroll_second hw b)),
    fun hk hw => (written hk).trans (congrArg _ (videoRegWrite_addr_first hw b)),
    fun hk hw => (written hk).trans (congrArg _ (videoRegWrite_addr_second hw b))⟩

end Sys2Proof.Machine
end

section
/-! PROOFS. The controllers: the strobe write, one read of a port, and the buttons that a row of reads gives. -/

namespace Sys2Proof.Machine

open Sys2Proof.Claims

/-! ### The strobe -/

/-- Bit 0 set latches both controllers and holds the strobe (R175). -/
theorem strobeWrite_raise {v : Byte} (h : v.getLsbD 0 = true) (s : State) :
    strobeWrite v s = { reload .two (reload .one s) with strobe := true } := if_pos h

/-- Clearing the held strobe latches both controllers again (R175). -/
theorem strobeWrite_fall {v : Byte} {s : State} (h : v.getLsbD 0 = false) (held : s.strobe = true) :
    strobeWrite v s = { reload .two (reload .one s) with strobe := false } := by
  rw [strobeWrite, if_neg (Bool.eq_false_iff.mp h), if_pos held]

/-- Clearing the strobe when it is low changes nothing (R175). -/
theorem strobeWrite_low {v : Byte} {s : State} (h : v.getLsbD 0 = false) (low : s.strobe = false) :
    strobeWrite v s = s := by
  rw [strobeWrite, if_neg (Bool.eq_false_iff.mp h), if_neg (Bool.eq_false_iff.mp low)]

/-- Settles O29: a write of 0x4016 is the strobe write, which has one equation per clause. -/
theorem strobeWrite_settled : Obligations.StrobeWrite := fun v s =>
  ⟨fun h => (memWrite_port1 v s).trans (congrArg _ (strobeWrite_raise h s)),
    fun h held => (memWrite_port1 v s).trans (congrArg _ (strobeWrite_fall h held)),
    fun h low => (memWrite_port1 v s).trans (congrArg _ (strobeWrite_low h low))⟩

/-! ### One read of a port -/

/-- A read with the strobe high gives the live top button and latches again (R176). -/
theorem controllerRead_held {s : State} (held : s.strobe = true) (p : Port) :
    controllerRead p s = (0x40 ||| bitByte ((s.host.buttons p).getLsbD 7), reload p s) := if_pos held

/-- A read with the strobe low gives the button the cursor names and moves the cursor on (R176). -/
theorem controllerRead_shifts {s : State} {p : Port} (low : s.strobe = false) (inside : (s.pad p).cursor ≤ 7) :
    controllerRead p s = (0x40 ||| bitByte ((s.pad p).latch.getLsbD (7 - (s.pad p).cursor)),
      s.setPad p { latch := (s.pad p).latch, cursor := (s.pad p).cursor + 1 }) := by
  rw [controllerRead, if_neg (Bool.eq_false_iff.mp low), if_pos inside]; rfl

/-- A read past the last button gives 0x41 and changes nothing (R176). -/
theorem controllerRead_past {s : State} {p : Port} (low : s.strobe = false) (past : 7 < (s.pad p).cursor) :
    controllerRead p s = (0x41, s) := by
  rw [controllerRead, if_neg (Bool.eq_false_iff.mp low), if_neg (by omega)]

/-- A read of a port is the controller's read, and is served (R40, R176). -/
theorem memRead_pad {a : Word} {p : Port} {s t : State} {b : Byte} (hr : route a = .pad p)
    (h : controllerRead p s = (b, t)) : memRead a s = .ok b t := by
  simp only [memRead, hr, h]

/-- Settles O30: each port's read is its controller's, which has one equation per clause. -/
theorem controllerReads : Obligations.ControllerReads := fun _ =>
  ⟨fun held => ⟨memRead_pad route_port1 (controllerRead_held held .one),
      memRead_pad route_port2 (controllerRead_held held .two)⟩,
    fun low inside => memRead_pad route_port1 (controllerRead_shifts (p := .one) low inside),
    fun low inside => memRead_pad route_port2 (controllerRead_shifts (p := .two) low inside),
    fun low past => memRead_pad route_port1 (controllerRead_past (p := .one) low past),
    fun low past => memRead_pad route_port2 (controllerRead_past (p := .two) low past)⟩

/-! ### A row of reads -/

/-- Controller `p` after a latch of `buttons` with the strobe let go, and `k` reads since (R175, R176). -/
structure ReadSinceLatch (p : Port) (buttons : Byte) (k : Nat) (s : State) : Prop where
  strobe : s.strobe = false
  latch : (s.pad p).latch = buttons
  cursor : (s.pad p).cursor = min k 8

/-- Raising the strobe and letting it go latches the live buttons (R175). -/
theorem readSinceLatch_strobed (p : Port) (s : State) :
    ReadSinceLatch p (s.host.buttons p) 0 (strobeWrite 0 (strobeWrite 1 s)) := by
  cases p <;> exact ⟨rfl, rfl, rfl⟩

/-- With the strobe low, it is enough to set the controller to the latch and the cursor of `k` reads. -/
theorem ReadSinceLatch.of_setPad {s : State} (low : s.strobe = false) (p : Port) (buttons : Byte) {c k : Nat}
    (hc : c = min k 8) : ReadSinceLatch p buttons k (s.setPad p { latch := buttons, cursor := c }) := by
  cases p <;> exact ⟨low, rfl, hc⟩

/-- The next read gives the next button, or 0x41 after the last (R176, R177). -/
theorem ReadSinceLatch.read {p : Port} {buttons : Byte} {k : Nat} {s : State} (h : ReadSinceLatch p buttons k s) :
    ∃ t, controllerRead p s = (kthButtonByte buttons k, t) ∧ ReadSinceLatch p buttons (k + 1) t := by
  obtain ⟨low, latch, cursor⟩ := h
  by_cases inside : k < 8
  · have hk : (s.pad p).cursor = k := by omega
    have byte : kthButtonByte buttons k = 0x40 ||| bitByte (buttons.getLsbD (7 - k)) := by
      rw [kthButtonByte, if_pos inside]
      cases buttons.getLsbD (7 - k) <;> rfl
    refine ⟨_, ?_, .of_setPad low p buttons (c := k + 1) (by omega)⟩
    rw [controllerRead_shifts low (by omega), latch, hk, byte]
  · have byte : kthButtonByte buttons k = 0x41 := if_neg inside
    exact ⟨s, by rw [controllerRead_past low (by omega), byte], low, latch, by omega⟩

/-- A row of reads gives the buttons from the next one on (R177). -/
theorem ReadSinceLatch.readsOf {p : Port} {buttons : Byte} {a : Word} (hr : route a = .pad p) (n : Nat) {k : Nat}
    {s : State} (h : ReadSinceLatch p buttons k s) :
    readsOf n a s = some ((List.range n).map fun j => kthButtonByte buttons (k + j)) := by
  induction n generalizing k s with
  | zero => rfl
  | succ n ih =>
    obtain ⟨t, hread, hnext⟩ := h.read
    have shift (j : Nat) : k + 1 + j = k + (j + 1) := by omega
    simp only [Claims.readsOf, memRead_pad hr hread, ih hnext, shift, Option.map_some, List.range_succ_eq_map,
      List.map_cons, List.map_map]
    rfl

/-- Settles O31: the strobe latches both controllers, and each row of reads starts from its latch. -/
theorem buttonsComeOutMostSignificantFirst : Obligations.ButtonsComeOutMostSignificantFirst := by
  intro n s
  have one := (readSinceLatch_strobed .one s).readsOf route_port1 n
  have two := (readSinceLatch_strobed .two s).readsOf route_port2 n
  simp only [Nat.zero_add] at one two
  exact ⟨_, _, memWrite_port1 1 s, memWrite_port1 0 _, one, two⟩

end Sys2Proof.Machine
end

section
/-! PROOFS. The first step after power-on: the reset sequence, with no host input before it and 21 video ticks after it. -/

namespace Sys2Proof.Machine

open Sys2Proof.Claims

/-- With no script to follow and no reset asserted, taking the host's inputs changes nothing (R178, R180). -/
theorem acceptHost_idle {s : State} (noScript : s.hostScript = []) (noReset : s.host.reset = false) :
    acceptHost s = s := by
  simp only [acceptHost, noScript, noReset, Bool.or_false]
  rw [← noScript]

/-- Ticks that end on scanline 0 move the dot alone, and latch no NMI (R158, R160). -/
theorem runVideo_line0 {n : Nat} {s : State} (line : s.video.scanline = 0) (within : s.video.dot + n < Config.dots) :
    runVideo n s = { s with video := { s.video with dot := s.video.dot + n } } := by
  simp only [runVideo, Video.ticks_line0 n line within, Bool.or_false]

/-- Settles O12: the reset latch is set at power-on, and the reset sequence's 7 cycles owe 21 ticks from dot 0. -/
theorem firstStepAfterPowerOn : Obligations.FirstStepAfterPowerOn := by
  intro a x y sp pc f ram oam cart c d l h first second p
  have idle : acceptHost p = p := acceptHost_idle rfl rfl
  have vector := resetSeq_cart (s := p) first second
  have within : 0 + 3 * 7 < Config.dots := by decide
  rw [step_running ⟨rfl, rfl⟩, idle, cpuStep_reset rfl, vector, afterCpuStep_running rfl, runVideo_line0 rfl within]
  rfl

end Sys2Proof.Machine
end
